-- ==== Sys2Proof/Word.lean ====
section
/-! DEFINITION. The word types of the DNP frame codec block: a byte of a buffer and a 64-bit host register value
(00_scope.md R7, row BUS_BITS; 10_state.md R30). -/

namespace Sys2Proof

/-- One byte of a buffer (10_state.md R30). -/
abbrev Byte := BitVec 8

/-- The value of one host register, of one host access and of one command word (00_scope.md R7, BUS_BITS = 64). -/
abbrev Word64 := BitVec 64

end Sys2Proof
end

