-- ==== Sys2Proof/Syntax.lean ====
section
/-! DEFINITION. The commands of the block: one constructor per row of spec/opcode_table.json
(30_encoding.md R68; 43_control.md R107). -/

namespace Sys2Proof

/-- A command, that is, what one value written to CMD asks for (30_encoding.md R67). No command of rule R68 has an
operand field: its operands are fixed registers (R72). A reserved command word is a row of its own (43_control.md
R107); the words with a reserved bit set keep both of their fields, so that no bit of a word is lost. -/
inductive Instr where
  /-- 0x0, 43_control.md R105. -/
  | nop
  /-- 0x1, 40_flags_codec.md R79. -/
  | flagsPack
  /-- 0x2, 40_flags_codec.md R80. -/
  | flagsUnpack
  /-- 0x3, 41_frame_codec.md R89. -/
  | frameParse
  /-- 0x4, 41_frame_codec.md R94. -/
  | frameSerialize
  /-- 0x5, 42_address_decoder.md R101. -/
  | addrDecode
  /-- 0x6, 43_control.md R106. -/
  | clear
  /-- 0x7, 43_control.md R107. -/
  | reserved7
  /-- 0x8, 43_control.md R107. -/
  | reserved8
  /-- 0x9, 43_control.md R107. -/
  | reserved9
  /-- 0xA, 43_control.md R107. -/
  | reservedA
  /-- 0xB, 43_control.md R107. -/
  | reservedB
  /-- 0xC, 43_control.md R107. -/
  | reservedC
  /-- 0xD, 43_control.md R107. -/
  | reservedD
  /-- 0xE, 43_control.md R107. -/
  | reservedE
  /-- 0xF, 43_control.md R107. -/
  | reservedF
  /-- A word whose bits 63:4 (`reserved`) are not all 0; `opcode` is its bits 3:0 (30_encoding.md R70). -/
  | reservedHighBits (reserved : BitVec 60) (opcode : BitVec 4)
  deriving DecidableEq, Repr

end Sys2Proof
end

