-- ==== Sys2Proof/Decode.lean ====
section
/-! DEFINITION. The command word's decoder and, after it, its encoder (30_encoding.md R67 to R71, R76). -/

namespace Sys2Proof

/-- Field OPCODE, bits 3:0 of a command word (30_encoding.md R67). -/
def opcodeField (w : Word64) : BitVec 4 := w.extractLsb' 0 4

/-- The reserved field, bits 63:4 of a command word (30_encoding.md R67). -/
def reservedField (w : Word64) : BitVec 60 := w.extractLsb' 4 60

/-- The command of an opcode whose word has no reserved bit set (30_encoding.md R68, R69). The last arm is opcode 0xF:
a 4-bit opcode has no value above it. -/
def decodeOpcode (op : BitVec 4) : Instr :=
  match op.toNat with
  | 0 => .nop
  | 1 => .flagsPack
  | 2 => .flagsUnpack
  | 3 => .frameParse
  | 4 => .frameSerialize
  | 5 => .addrDecode
  | 6 => .clear
  | 7 => .reserved7
  | 8 => .reserved8
  | 9 => .reserved9
  | 10 => .reservedA
  | 11 => .reservedB
  | 12 => .reservedC
  | 13 => .reservedD
  | 14 => .reservedE
  | _ => .reservedF

/-- The command that a value written to CMD encodes. Total: every one of the 2^64 words is a row of the table
(30_encoding.md R71). The reserved bits are checked before the opcode (43_control.md R112). -/
def decode (w : Word64) : Instr :=
  if reservedField w = 0 then decodeOpcode (opcodeField w)
  else .reservedHighBits (reservedField w) (opcodeField w)

/-- Why a number is no command word. Raised by `decodeNat` only; safe, since no host write presents such a number. -/
inductive DecodeRefusal where
  /-- The number does not fit the 64 bits of CMD (30_encoding.md R67). -/
  | widerThanCommandWord
  deriving DecidableEq, Repr

/-- The command a number encodes, refused by name where it is no 64-bit word (30_encoding.md R67, R71). -/
def decodeNat (w : Nat) : Except DecodeRefusal Instr :=
  if w < 2 ^ 64 then .ok (decode (BitVec.ofNat 64 w)) else .error .widerThanCommandWord

/-- The command read from the bits `w` of a row of spec/opcode_table.json that has `nbits` bits; every bit at or above
`nbits` is 0. A command is one 64-bit word, so there is no word order and no byte order to choose (20_memory.md R47).
Log entry 11. -/
def decodeTableWord (nbits w : Nat) : Option Instr := (decodeNat (w % 2 ^ nbits)).toOption

/-- The opcode a command is issued under, which STATUS.LAST_OP records (30_encoding.md R68; 43_control.md R107). -/
def Instr.opcode : Instr → BitVec 4
  | .nop => 0x0
  | .flagsPack => 0x1
  | .flagsUnpack => 0x2
  | .frameParse => 0x3
  | .frameSerialize => 0x4
  | .addrDecode => 0x5
  | .clear => 0x6
  | .reserved7 => 0x7
  | .reserved8 => 0x8
  | .reserved9 => 0x9
  | .reservedA => 0xA
  | .reservedB => 0xB
  | .reservedC => 0xC
  | .reservedD => 0xD
  | .reservedE => 0xE
  | .reservedF => 0xF
  | .reservedHighBits _ opcode => opcode

/-- The reserved bits of a command's word: 0 but for the row RESERVED_HIGH_BITS (30_encoding.md R67, R70). -/
def Instr.reservedBits : Instr → BitVec 60
  | .nop => 0
  | .flagsPack => 0
  | .flagsUnpack => 0
  | .frameParse => 0
  | .frameSerialize => 0
  | .addrDecode => 0
  | .clear => 0
  | .reserved7 => 0
  | .reserved8 => 0
  | .reserved9 => 0
  | .reservedA => 0
  | .reservedB => 0
  | .reservedC => 0
  | .reservedD => 0
  | .reservedE => 0
  | .reservedF => 0
  | .reservedHighBits reserved _ => reserved

/-- The command word of a command: the reserved bits, then the opcode (30_encoding.md R67, R76). -/
def encode (i : Instr) : Word64 := i.reservedBits ++ i.opcode

end Sys2Proof
end

