-- ==== Sys2Proof/Config.lean ====
section
/-! DEFINITION. What an implementation of the block fixes and what the spec leaves free: the parameters of
00_scope.md R7 and the unspecified contents of the buffers (10_state.md R30). -/

namespace Sys2Proof

/-- How far `FRAME_MAX` lies above its least value 28. No body: the spec leaves `FRAME_MAX` OPEN between 28 and 2^24
(00_scope.md R7), so nothing can be proved of it but that range. Log entry 4. -/
opaque Config.frameMaxAbove28 : Fin (16777188 + 1)

/-- `FRAME_MAX`, the byte capacity of IBUF and OBUF, 28 <= FRAME_MAX <= 2^24 (00_scope.md R7). -/
def Config.FRAME_MAX : Nat := Config.frameMaxAbove28.val + 28

/-- `HDR_BYTES` (00_scope.md R7). -/
def Config.HDR_BYTES : Nat := 28

/-- The SPEC_VERSION field of CAP (10_state.md R36). -/
def Config.SPEC_VERSION : Nat := 1

/-- `PAYLOAD_MAX` = FRAME_MAX - 28 of a block whose capacity is `frameMax` (00_scope.md R7). -/
def Config.payloadMax (frameMax : Nat) : Nat := frameMax - Config.HDR_BYTES

/-- `PAYLOAD_MAX`, the byte capacity of PBUF (00_scope.md R7). -/
def Config.PAYLOAD_MAX : Nat := Config.payloadMax Config.FRAME_MAX

/-- The unspecified contents of a buffer byte that nobody has written since reset: "a model takes each byte as an
arbitrary value (a draw)" (10_state.md R30). `epoch` counts the resets taken and `offset` is the byte's host offset
(20_memory.md R44), so each location has one arbitrary byte, fixed until it is written or the block is reset.
No body: nothing can be proved of its value. Log entry 5. -/
opaque Config.resetByte (epoch offset : Nat) : Byte

end Sys2Proof
end

