-- ==== Sys2Proof/Machine/State.lean ====
section
/-! DEFINITION. The state of the block as plain data (10_state.md R16), the host transactions it is given, the reasons
a step can stop, and the state after reset (70_reset_and_hazards.md R129, R130). -/

namespace Sys2Proof.Machine

/-- The named host registers of 20_memory.md R43, the reserved offset 0x0A8 among them. -/
inductive Reg where
  | CMD | STATUS | CTRL | CAP
  | FLG_IN | FLG_OUT
  | ADDR_IN | ADDR_SVC | ADDR_CMP | ADDR_RES | ADDR_TGT
  | PKT_ID | PKT_FLAGS | PKT_REQ | PKT_RSP | PKT_DWS | PKT_DWE | PKT_PLEN | PKT_PRESENT
  | IN_LEN | OUT_LEN
  /-- Offset 0x0A8: reads 0, writes ignored (20_memory.md R43). -/
  | RESERVED_0A8
  deriving DecidableEq, Repr

/-- The three byte buffers (10_state.md R30). -/
inductive Buffer where
  | IBUF | OBUF | PBUF
  deriving DecidableEq, Repr

/-- One host access as 30_encoding.md R74 writes it: its kind, its byte offset from the block's base address
(20_memory.md R43, which a model takes as 0; log entry 8), its size in bytes and, for a write, its data. -/
inductive Access where
  | write (offset size : Nat) (data : Word64)
  | read (offset size : Nat)
  deriving DecidableEq, Repr

/-- What the world outside the block can do to it: one host access (43_control.md R108 to R111), or a pulse on the
reset input that the platform drives (70_reset_and_hazards.md R129). Log entries 1 and 6. -/
inductive Input where
  | access (a : Access)
  | reset
  deriving DecidableEq, Repr

/-- The entity kind of a target (30_encoding.md R65). -/
inductive TargetKind where
  | NONE | SERVICE | COMPONENT | RESOURCE
  deriving DecidableEq, Repr

/-- The contents of ADDR_TGT (10_state.md R24). -/
structure Target where
  TGT_KIND : TargetKind
  TGT_ID : BitVec 16
  deriving DecidableEq, Repr

/-- The contents of PKT_PRESENT: which mandatory packet fields hold a value (10_state.md R29). -/
structure Present where
  ID : Bool
  FLAGS : Bool
  deriving DecidableEq, Repr

/-- The contents of STATUS: the result of the last command (10_state.md R34). -/
structure Status where
  DONE : Bool
  ERR : Bool
  ERR_STICKY : Bool
  ERR_CODE : BitVec 4
  LAST_OP : BitVec 4
  deriving DecidableEq, Repr

/-- The contents of CTRL: the policy (10_state.md R35); 0 is lenient. -/
structure Ctrl where
  STRICT : Bool
  deriving DecidableEq, Repr

/-- The errors a command can raise (60_exceptions.md R115). -/
inductive ErrorCause where
  | FLAGS_RANGE | LEN_RANGE | MISSING_FIELD | FRAME_SHORT | FIELD_OVERFLOW | BAD_CMD
  deriving DecidableEq, Repr

/-- The bytes of one buffer that somebody has written since reset, by index, the indices strictly rising
(`Memory.wf`). An index that is not listed holds no written byte: reading it gives the unspecified contents
`Config.resetByte` (10_state.md R30; log entry 5). -/
abbrev Memory := List Host.Cell

/-- The complete state of the block (10_state.md R16), and after it the model's own three fields for what is
outside the block. CMD holds no value, CAP is constant and FRAME_MAX is a parameter (R16, R33, R36). -/
@[ext]
structure State where
  /-- R18 -/
  FLG_IN : Word64
  /-- R19 -/
  FLG_OUT : Word64
  /-- R20 -/
  ADDR_IN : Word64
  /-- R21 -/
  ADDR_SVC : BitVec 16
  /-- R22 -/
  ADDR_CMP : BitVec 16
  /-- R23 -/
  ADDR_RES : BitVec 16
  /-- R24 -/
  ADDR_TGT : Target
  /-- R25 -/
  PKT_ID : Word64
  /-- R26 -/
  PKT_FLAGS : BitVec 8
  /-- R27, the packet's request_address -/
  PKT_REQ : Word64
  /-- R27, the packet's response_address -/
  PKT_RSP : Word64
  /-- R27, the packet's data_window_start -/
  PKT_DWS : Word64
  /-- R27, the packet's data_window_end -/
  PKT_DWE : Word64
  /-- R28 -/
  PKT_PLEN : Word64
  /-- R29 -/
  PKT_PRESENT : Present
  /-- R30, the input frame -/
  IBUF : Memory
  /-- R30, the output frame -/
  OBUF : Memory
  /-- R30, the payload -/
  PBUF : Memory
  /-- R31 -/
  IN_LEN : Word64
  /-- R32 -/
  OUT_LEN : Word64
  /-- R34 -/
  STATUS : Status
  /-- R35 -/
  CTRL : Ctrl
  /-- MODEL: what the host and the platform have yet to do to the block, the next one first. Log entry 1. -/
  inputs : List Input
  /-- MODEL: the values the host's reads have returned, oldest first. Log entry 2. -/
  responses : List Word64
  /-- MODEL: how many reset pulses have been taken; it selects the draw of the unspecified buffer contents
  (`Config.resetByte`). Log entry 5. -/
  epoch : Nat
  deriving DecidableEq, Repr

/-- Why the machine stops with a fault: it never does. The block has no trap (60_exceptions.md R120); an error is
reported in STATUS and is a next state (R116). Log entry 9. -/
inductive Fault where
  deriving DecidableEq, Repr

/-- Why the machine gives no next state. But for the first, each is raised by `Sys2Proof.Machine.hostAccess` on a host
access that 43_control.md R108 to R110 do not admit, which R111 says a model refuses; all of them are safe: the model
stops where the spec gives no meaning. Log entry 7. -/
inductive Refusal where
  /-- A command without a meaning; raised in `exec`'s arms only (none is left). Safe. -/
  | notModelled (mnemonic : String)
  /-- An access at an offset outside the register map and the three windows (20_memory.md R45). Safe. -/
  | unmappedOffset
  /-- A register access whose size is not 8 bytes (20_memory.md R49). Safe. -/
  | registerAccessSize
  /-- A register access at an offset that is not a multiple of 8 (20_memory.md R49). Safe. -/
  | registerAccessAlignment
  /-- A buffer access whose size is not 1 byte (20_memory.md R49). Safe. -/
  | bufferAccessSize
  /-- A buffer access at or above the buffer's size (20_memory.md R45). Safe. -/
  | bufferIndexOutOfRange
  /-- A buffer byte write whose data is not below 256 (43_control.md R110). Safe. -/
  | bufferDataNotAByte
  deriving DecidableEq, Repr

/-- What a step and a meaning answer. -/
abbrev Result := Host.Outcome State Fault Refusal

/-- The block right after reset (70_reset_and_hazards.md R129, R130), with no host transaction pending. Every register
value is the spec's; the buffers list no byte, so each holds its unspecified contents; the three fields of the model's
own are DESIGN CHOICE (log entries 1, 2, 5). -/
def State.reset : State where
  FLG_IN := 0
  FLG_OUT := 0
  ADDR_IN := 0
  ADDR_SVC := 0
  ADDR_CMP := 0
  ADDR_RES := 0
  ADDR_TGT := { TGT_KIND := .NONE, TGT_ID := 0 }
  PKT_ID := 0
  PKT_FLAGS := 0
  PKT_REQ := 0
  PKT_RSP := 0
  PKT_DWS := 0
  PKT_DWE := 0
  PKT_PLEN := 0
  PKT_PRESENT := { ID := false, FLAGS := false }
  IBUF := []
  OBUF := []
  PBUF := []
  IN_LEN := 0
  OUT_LEN := 0
  STATUS := { DONE := false, ERR := false, ERR_STICKY := false, ERR_CODE := 0, LAST_OP := 0 }
  CTRL := { STRICT := false }
  inputs := []
  responses := []
  epoch := 0

end Sys2Proof.Machine
end

