-- ==== Sys2Proof/Machine/Flags.lean ====
section
/-! DEFINITION. The block's only status flags: the fields of STATUS (10_state.md R34, R39), how a command's completion
computes them (43_control.md R113), and the error codes (60_exceptions.md R115). -/

namespace Sys2Proof.Machine

/-- One status or control bit in a register's value. -/
def bit1 (b : Bool) : BitVec 1 := BitVec.ofBool b

/-- The error codes (60_exceptions.md R115). -/
def ErrorCause.code : ErrorCause → BitVec 4
  | .FLAGS_RANGE => 1
  | .LEN_RANGE => 2
  | .MISSING_FIELD => 3
  | .FRAME_SHORT => 4
  | .FIELD_OVERFLOW => 5
  | .BAD_CMD => 6

/-- STATUS after a command of opcode `op` ends in `complete(op, e)`: NONE is `none` (43_control.md R113). -/
def statusAfter (op : BitVec 4) (e : Option ErrorCause) (old : Status) : Status where
  DONE := true
  ERR := e.isSome
  ERR_STICKY := old.ERR_STICKY || e.isSome
  ERR_CODE := (e.map ErrorCause.code).getD 0
  LAST_OP := op

/-- STATUS after CLEAR (43_control.md R106). -/
def statusAfterClear : Status where
  DONE := true
  ERR := false
  ERR_STICKY := false
  ERR_CODE := 0
  LAST_OP := 0x6

/-- The value of STATUS: LAST_OP at 11:8, ERR_CODE at 7:4, a 0 at 3, ERR_STICKY, ERR, DONE (10_state.md R34). -/
def statusWord (st : Status) : Word64 :=
  (0 : BitVec 52) ++ st.LAST_OP ++ st.ERR_CODE ++ (0 : BitVec 1) ++ bit1 st.ERR_STICKY ++ bit1 st.ERR ++ bit1 st.DONE

end Sys2Proof.Machine
end

