-- ==== Sys2Proof/Machine/Ops.lean ====
section
/-! DEFINITION. The named operations over the buffers and the registers: reading and writing buffer bytes
(00_scope.md R12; 10_state.md R30), completing a command and raising an error (43_control.md R113), the return of the
registers to their reset values, the block's reset input, and the host side of a transaction. -/

namespace Sys2Proof.Machine

/-! ### Byte memories -/

/-- The canonical form of a buffer's memory: indices strictly rising. -/
abbrev Memory.wf (m : Memory) : Prop := m.Pairwise (fun a b => a.1 < b.1)

/-- The byte written at index `k` since reset, if any. -/
def Memory.lookup (k : Nat) : Memory → Option Byte
  | [] => none
  | (a, b) :: rest => if a = k then some b else Memory.lookup k rest

/-- Write byte `b` at index `k`, keeping the canonical form. -/
def Memory.write (k : Nat) (b : Byte) : Memory → Memory
  | [] => [(k, b)]
  | (a, c) :: rest =>
    if k < a then (k, b) :: (a, c) :: rest
    else if a = k then (k, b) :: rest
    else (a, c) :: Memory.write k b rest

/-- Write the bytes `bs` at the indices from `k` up. -/
def Memory.writeBytes (k : Nat) : List Byte → Memory → Memory
  | [], m => m
  | b :: bs, m => Memory.writeBytes (k + 1) bs (Memory.write k b m)

/-! ### Buffers -/

/-- The base of a buffer's window in the host's offset range (20_memory.md R44). -/
def windowBase : Buffer → Nat
  | .IBUF => 0x01000000
  | .OBUF => 0x02000000
  | .PBUF => 0x03000000

/-- The size in bytes of a buffer, in a block whose capacity is `frameMax` (10_state.md R30). -/
def bufSize (frameMax : Nat) : Buffer → Nat
  | .IBUF => frameMax
  | .OBUF => frameMax
  | .PBUF => Config.payloadMax frameMax

/-- The written bytes of a buffer. -/
def State.mem (s : State) : Buffer → Memory
  | .IBUF => s.IBUF
  | .OBUF => s.OBUF
  | .PBUF => s.PBUF

/-- The state with the written bytes of one buffer replaced. -/
def State.setMem (s : State) (B : Buffer) (m : Memory) : State :=
  match B with
  | .IBUF => { s with IBUF := m }
  | .OBUF => { s with OBUF := m }
  | .PBUF => { s with PBUF := m }

/-- What byte `k` of a buffer reads as where nobody has written it since reset (10_state.md R30). This is the one
definition of what an unlisted index reads as. Log entry 5. -/
def unwrittenByte (s : State) (B : Buffer) (k : Nat) : Byte := Config.resetByte s.epoch (windowBase B + k)

/-- `BufRead(B, k)` (00_scope.md R12): the last byte written, or the unspecified one (20_memory.md R52). -/
def bufRead (B : Buffer) (k : Nat) (s : State) : Byte := (Memory.lookup k (s.mem B)).getD (unwrittenByte s B k)

/-- `BufWrite(B, k, b)` (00_scope.md R12). -/
def bufWrite (B : Buffer) (k : Nat) (b : Byte) (s : State) : State := s.setMem B (Memory.write k b (s.mem B))

/-- `B[lo .. lo + n)` (00_scope.md R11). -/
def bufBytes (B : Buffer) (lo n : Nat) (s : State) : List Byte := (List.range n).map (fun i => bufRead B (lo + i) s)

/-- `BufWrite` of `bs` to `B[lo .. lo + |bs|)`, in rising order. -/
def bufWriteBytes (B : Buffer) (lo : Nat) (bs : List Byte) (s : State) : State :=
  s.setMem B (Memory.writeBytes lo bs (s.mem B))

/-! ### The results of the commands -/

/-- FLG_OUT written by a flags command (10_state.md R19). -/
def State.setFlagsResult (s : State) (v : Word64) : State := { s with FLG_OUT := v }

/-- ADDR_SVC, ADDR_CMP, ADDR_RES and ADDR_TGT written by ADDR_DECODE (10_state.md R21 to R24). -/
def State.setAddressResult (s : State) (svc cmp res : BitVec 16) (target : Target) : State :=
  { s with ADDR_SVC := svc, ADDR_CMP := cmp, ADDR_RES := res, ADDR_TGT := target }

/-- OUT_LEN written by FRAME_SERIALIZE (10_state.md R32). -/
def State.setFrameLength (s : State) (v : Word64) : State := { s with OUT_LEN := v }

/-! ### How a command ends -/

/-- STATUS written, whole (10_state.md R34). -/
def State.setStatus (s : State) (st : Status) : State := { s with STATUS := st }

/-- `complete(op, e)`: every command ends in it; NONE is `none` (43_control.md R113). -/
def complete (op : BitVec 4) (e : Option ErrorCause) (s : State) : State :=
  s.setStatus (statusAfter op e s.STATUS)

/-- `raise E` in a command of opcode `op`, given the state BEFORE the command, so that every write of the command is
discarded (43_control.md R113): STATUS changes and nothing else does (60_exceptions.md R116). This is the block's only
form of taking an exception; there is no trap entry and no return (R120, R121). -/
def raise (op : BitVec 4) (e : ErrorCause) (s : State) : State := complete op (some e) s

/-! ### Reset -/

/-- Every register of 10_state.md rules R18 to R29, R31, R32 and R35 at its reset value; the buffers, STATUS and
the host's side are left (43_control.md R106). -/
def clearRegisters (s : State) : State :=
  { State.reset with
    IBUF := s.IBUF, OBUF := s.OBUF, PBUF := s.PBUF, STATUS := s.STATUS,
    inputs := s.inputs, responses := s.responses, epoch := s.epoch }

/-- A pulse on the reset input (70_reset_and_hazards.md R129): every register at its reset value and every buffer
byte unspecified afresh. What the host has read and has still to do is not the block's. Log entry 6. -/
def resetBlock (s : State) : State :=
  { State.reset with inputs := s.inputs, responses := s.responses, epoch := s.epoch + 1 }

/-! ### The host's side of a transaction -/

/-- The state once the host has issued its first pending transaction, leaving `rest`. Log entry 1. -/
def State.withInputs (s : State) (rest : List Input) : State := { s with inputs := rest }

/-- The state once a host read has returned `v`: nothing of the block changes (20_memory.md R51). Log entry 2. -/
def State.respond (s : State) (v : Word64) : State := { s with responses := s.responses ++ [v] }

end Sys2Proof.Machine
end

