-- ==== Sys2Proof/Machine/Operands.lean ====
section
/-! DEFINITION. The operand forms. Commands take their operands from fixed registers (30_encoding.md R72); the host
reads and writes registers as 64-bit values (43_control.md R108, R109). -/

namespace Sys2Proof.Machine

/-! ### Operands of the commands -/

/-- FLG_IN[7:0], the flags value that FLAGS_PACK packs (40_flags_codec.md R79). -/
def flagsOperand (s : State) : BitVec 8 := s.FLG_IN.setWidth 8

/-- FLG_IN, all 64 bits, the word that FLAGS_UNPACK unpacks (40_flags_codec.md R80). -/
def wordOperand (s : State) : Word64 := s.FLG_IN

/-- ADDR_IN[47:0], the address that ADDR_DECODE decodes; bits 63:48 are not read (42_address_decoder.md R101, R103). -/
def addressOperand (s : State) : BitVec 48 := s.ADDR_IN.setWidth 48

/-- IN_LEN, the length in bytes of the frame in IBUF (10_state.md R31). -/
def frameLength (s : State) : Nat := s.IN_LEN.toNat

/-- `IBUF[0 .. IN_LEN)`, the frame that FRAME_PARSE parses (41_frame_codec.md R89). -/
def frameOperand (s : State) : List Byte := bufBytes .IBUF 0 (frameLength s) s

/-- PKT_PLEN, the payload's length in bytes (10_state.md R28). -/
def payloadLength (s : State) : Nat := s.PKT_PLEN.toNat

/-- `PBUF[0 .. PKT_PLEN)`, the payload that FRAME_SERIALIZE appends (41_frame_codec.md R94). -/
def payloadOperand (s : State) : List Byte := bufBytes .PBUF 0 (payloadLength s) s

/-- CTRL.STRICT (10_state.md R35). -/
def strictPolicy (s : State) : Bool := s.CTRL.STRICT

/-- Whether a mandatory packet field holds no value (10_state.md R29). -/
def packetFieldMissing (s : State) : Bool := !s.PKT_PRESENT.ID || !s.PKT_PRESENT.FLAGS

/-- Whether a packet register holds a value wider than its field (41_frame_codec.md R95). -/
def packetFieldTooWide (s : State) : Bool :=
  decide (2 ^ 16 ≤ s.PKT_ID.toNat) || decide (2 ^ 48 ≤ s.PKT_REQ.toNat) || decide (2 ^ 48 ≤ s.PKT_RSP.toNat)
    || decide (2 ^ 48 ≤ s.PKT_DWS.toNat) || decide (2 ^ 48 ≤ s.PKT_DWE.toNat)

/-! ### Register values as the host reads them -/

/-- The 2-bit code of an entity kind (30_encoding.md R65). -/
def TargetKind.code : TargetKind → BitVec 2
  | .NONE => 0
  | .SERVICE => 1
  | .COMPONENT => 2
  | .RESOURCE => 3

/-- The value of ADDR_TGT: TGT_KIND at 17:16, TGT_ID at 15:0 (10_state.md R24). -/
def targetWord (t : Target) : Word64 := (0 : BitVec 46) ++ t.TGT_KIND.code ++ t.TGT_ID

/-- The value of PKT_PRESENT: FLAGS at bit 1, ID at bit 0 (10_state.md R29). -/
def presentWord (p : Present) : Word64 := (0 : BitVec 62) ++ bit1 p.FLAGS ++ bit1 p.ID

/-- The value of CTRL: STRICT at bit 0 (10_state.md R35). -/
def ctrlWord (c : Ctrl) : Word64 := (0 : BitVec 63) ++ bit1 c.STRICT

/-- The value of CAP in a block whose capacity is `frameMax`: SPEC_VERSION at 47:40, FRAME_MAX at 39:8, HDR_BYTES at
7:0 (10_state.md R36). -/
def capWord (frameMax : Nat) : Word64 :=
  (0 : BitVec 16) ++ BitVec.ofNat 8 Config.SPEC_VERSION ++ BitVec.ofNat 32 frameMax ++ BitVec.ofNat 8 Config.HDR_BYTES

/-- The value a host read of a register returns: reserved bits and the bits above a narrow register read 0, and so do
CMD and the reserved offset (43_control.md R109; 10_state.md R37). -/
def regRead (r : Reg) (s : State) : Word64 :=
  match r with
  | .CMD => 0
  | .STATUS => statusWord s.STATUS
  | .CTRL => ctrlWord s.CTRL
  | .CAP => capWord Config.FRAME_MAX
  | .FLG_IN => s.FLG_IN
  | .FLG_OUT => s.FLG_OUT
  | .ADDR_IN => s.ADDR_IN
  | .ADDR_SVC => s.ADDR_SVC.setWidth 64
  | .ADDR_CMP => s.ADDR_CMP.setWidth 64
  | .ADDR_RES => s.ADDR_RES.setWidth 64
  | .ADDR_TGT => targetWord s.ADDR_TGT
  | .PKT_ID => s.PKT_ID
  | .PKT_FLAGS => s.PKT_FLAGS.setWidth 64
  | .PKT_REQ => s.PKT_REQ
  | .PKT_RSP => s.PKT_RSP
  | .PKT_DWS => s.PKT_DWS
  | .PKT_DWE => s.PKT_DWE
  | .PKT_PLEN => s.PKT_PLEN
  | .PKT_PRESENT => presentWord s.PKT_PRESENT
  | .IN_LEN => s.IN_LEN
  | .OUT_LEN => s.OUT_LEN
  | .RESERVED_0A8 => 0

/-- The effect of a host write of `v` to a register other than CMD (43_control.md R108). A write to CMD issues a
command (`Sys2Proof.Machine.issue`) and stores nothing. -/
def regWrite (r : Reg) (v : Word64) (s : State) : State :=
  match r with
  | .CMD => s
  | .STATUS => s
  | .CTRL => { s with CTRL := { STRICT := v.getLsbD 0 } }
  | .CAP => s
  | .FLG_IN => { s with FLG_IN := v }
  | .FLG_OUT => s
  | .ADDR_IN => { s with ADDR_IN := v }
  | .ADDR_SVC => s
  | .ADDR_CMP => s
  | .ADDR_RES => s
  | .ADDR_TGT => s
  | .PKT_ID => { s with PKT_ID := v, PKT_PRESENT := { s.PKT_PRESENT with ID := true } }
  | .PKT_FLAGS => { s with PKT_FLAGS := v.setWidth 8, PKT_PRESENT := { s.PKT_PRESENT with FLAGS := true } }
  | .PKT_REQ => { s with PKT_REQ := v }
  | .PKT_RSP => { s with PKT_RSP := v }
  | .PKT_DWS => { s with PKT_DWS := v }
  | .PKT_DWE => { s with PKT_DWE := v }
  | .PKT_PLEN => { s with PKT_PLEN := v }
  | .PKT_PRESENT => s
  | .IN_LEN => { s with IN_LEN := v }
  | .OUT_LEN => s
  | .RESERVED_0A8 => s

/-- The effect of a host write of a byte: OBUF is read-only to the host, so there it is none (43_control.md R110). -/
def hostBufWrite (B : Buffer) (k : Nat) (b : Byte) (s : State) : State :=
  match B with
  | .IBUF => bufWrite .IBUF k b s
  | .OBUF => s
  | .PBUF => bufWrite .PBUF k b s

/-! ### Places of the host's address space -/

/-- The byte offset of a register (20_memory.md R43). -/
def Reg.offset : Reg → Nat
  | .CMD => 0x000
  | .STATUS => 0x008
  | .CTRL => 0x010
  | .CAP => 0x018
  | .FLG_IN => 0x020
  | .FLG_OUT => 0x028
  | .ADDR_IN => 0x030
  | .ADDR_SVC => 0x038
  | .ADDR_CMP => 0x040
  | .ADDR_RES => 0x048
  | .ADDR_TGT => 0x050
  | .PKT_ID => 0x058
  | .PKT_FLAGS => 0x060
  | .PKT_REQ => 0x068
  | .PKT_RSP => 0x070
  | .PKT_DWS => 0x078
  | .PKT_DWE => 0x080
  | .PKT_PLEN => 0x088
  | .PKT_PRESENT => 0x090
  | .IN_LEN => 0x098
  | .OUT_LEN => 0x0A0
  | .RESERVED_0A8 => 0x0A8

/-- The registers in the order of their offsets (20_memory.md R43). -/
def registerMap : List Reg :=
  [.CMD, .STATUS, .CTRL, .CAP, .FLG_IN, .FLG_OUT, .ADDR_IN, .ADDR_SVC, .ADDR_CMP, .ADDR_RES, .ADDR_TGT,
    .PKT_ID, .PKT_FLAGS, .PKT_REQ, .PKT_RSP, .PKT_DWS, .PKT_DWE, .PKT_PLEN, .PKT_PRESENT, .IN_LEN, .OUT_LEN,
    .RESERVED_0A8]

/-- The register at an offset (20_memory.md R43). -/
def regAt (offset : Nat) : Option Reg := registerMap.find? (fun r => r.offset == offset)

/-- What a host access reaches: a register, or byte `k` of a buffer. -/
inductive Place where
  | register (r : Reg)
  | byte (B : Buffer) (k : Nat)
  deriving DecidableEq, Repr

/-- What an access of `size` bytes at byte `k` of a buffer's window reaches, in a block whose capacity is `frameMax`
(20_memory.md R44, R45, R49). -/
def locateByte (frameMax : Nat) (B : Buffer) (k size : Nat) : Except Refusal Place :=
  if size ≠ 1 then .error .bufferAccessSize
  else if k < bufSize frameMax B then .ok (.byte B k)
  else .error .bufferIndexOutOfRange

/-- What a host access of `size` bytes at `offset` reaches, or why it is not admitted (20_memory.md R43 to R45, R49;
43_control.md R111). A window holds 2^24 byte addresses (20_memory.md R42). -/
def locate (frameMax offset size : Nat) : Except Refusal Place :=
  match offset / 2 ^ 24 with
  | 0 =>
    if 0x0B0 ≤ offset then .error .unmappedOffset
    else if size ≠ 8 then .error .registerAccessSize
    else match regAt offset with
      | some r => .ok (.register r)
      | none => .error .registerAccessAlignment
  | 1 => locateByte frameMax .IBUF (offset % 2 ^ 24) size
  | 2 => locateByte frameMax .OBUF (offset % 2 ^ 24) size
  | 3 => locateByte frameMax .PBUF (offset % 2 ^ 24) size
  | _ => .error .unmappedOffset

end Sys2Proof.Machine
end

