-- ==== Sys2Proof/Machine/AddressDecoder.lean ====
section
/-! DEFINITION. The 48-bit hierarchical address decoder: ADDR_DECODE (42_address_decoder.md R99 to R103). -/

namespace Sys2Proof.Machine

/-- `addr_decode(a)`: service_id, component_id, resource_id (42_address_decoder.md R99). -/
def addrDecode (a : BitVec 48) : BitVec 16 × BitVec 16 × BitVec 16 :=
  (a.extractLsb' 32 16, a.extractLsb' 16 16, a.extractLsb' 0 16)

/-- `target_select(s, c, r)`: the most specific nonzero id wins (42_address_decoder.md R100). -/
def targetSelect (svc cmp res : BitVec 16) : Target :=
  if res ≠ 0 then { TGT_KIND := .RESOURCE, TGT_ID := res }
  else if cmp ≠ 0 then { TGT_KIND := .COMPONENT, TGT_ID := cmp }
  else if svc ≠ 0 then { TGT_KIND := .SERVICE, TGT_ID := svc }
  else { TGT_KIND := .NONE, TGT_ID := 0 }

/-- ADDR_DECODE (42_address_decoder.md R101). -/
def execAddrDecode (s : State) : Result :=
  let ids := addrDecode (addressOperand s)
  .next (complete 0x5 none
    (s.setAddressResult ids.1 ids.2.1 ids.2.2 (targetSelect ids.1 ids.2.1 ids.2.2)))

end Sys2Proof.Machine
end

