-- ==== Sys2Proof/Machine/Control.lean ====
section
/-! DEFINITION. The control commands NOP and CLEAR and the reserved command words (43_control.md R105 to R107). -/

namespace Sys2Proof.Machine

/-- NOP (43_control.md R105). -/
def execNop (s : State) : Result := .next (complete 0x0 none s)

/-- CLEAR: it writes STATUS directly (43_control.md R106, R113). -/
def execClear (s : State) : Result := .next ((clearRegisters s).setStatus statusAfterClear)

/-- A reserved command word of opcode `op` raises BAD_CMD, always (43_control.md R107). -/
def badCommand (op : BitVec 4) (s : State) : State := raise op .BAD_CMD s

/-- RESERVED_0x7 (30_encoding.md R69; 43_control.md R107). -/
def execReserved7 (s : State) : Result := .next (badCommand 0x7 s)

/-- RESERVED_0x8 (30_encoding.md R69; 43_control.md R107). -/
def execReserved8 (s : State) : Result := .next (badCommand 0x8 s)

/-- RESERVED_0x9 (30_encoding.md R69; 43_control.md R107). -/
def execReserved9 (s : State) : Result := .next (badCommand 0x9 s)

/-- RESERVED_0xA (30_encoding.md R69; 43_control.md R107). -/
def execReservedA (s : State) : Result := .next (badCommand 0xA s)

/-- RESERVED_0xB (30_encoding.md R69; 43_control.md R107). -/
def execReservedB (s : State) : Result := .next (badCommand 0xB s)

/-- RESERVED_0xC (30_encoding.md R69; 43_control.md R107). -/
def execReservedC (s : State) : Result := .next (badCommand 0xC s)

/-- RESERVED_0xD (30_encoding.md R69; 43_control.md R107). -/
def execReservedD (s : State) : Result := .next (badCommand 0xD s)

/-- RESERVED_0xE (30_encoding.md R69; 43_control.md R107). -/
def execReservedE (s : State) : Result := .next (badCommand 0xE s)

/-- RESERVED_0xF (30_encoding.md R69; 43_control.md R107). -/
def execReservedF (s : State) : Result := .next (badCommand 0xF s)

/-- RESERVED_HIGH_BITS: whatever the reserved bits are, BAD_CMD; STATUS.LAST_OP records bits 3:0 (30_encoding.md R70). -/
def execReservedHighBits (opcode : BitVec 4) (s : State) : Result := .next (badCommand opcode s)

end Sys2Proof.Machine
end

