-- ==== Sys2Proof/Machine/Bytes.lean ====
section
/-! DEFINITION. Bit and byte-sequence helpers of the spec's notation (00_scope.md R9, R11). -/

namespace Sys2Proof.Machine

/-- Bit `i` of `v`, as a `width`-bit value that is 0 or 1 (00_scope.md R9). -/
def bitOf {n : Nat} (width : Nat) (v : BitVec n) (i : Nat) : BitVec width := ((v >>> i) &&& 1).setWidth width

/-- The big-endian value of a byte sequence (00_scope.md R11). -/
def beJoin : List Byte → Nat
  | [] => 0
  | b :: bs => b.toNat * 256 ^ bs.length + beJoin bs

/-- The low `L` bytes of `v`, most significant first (00_scope.md R11). -/
def beSplit (v : Nat) : Nat → List Byte
  | 0 => []
  | L + 1 => BitVec.ofNat 8 ((v >>> (8 * L)) &&& 0xFF) :: beSplit v L

end Sys2Proof.Machine
end

