-- ==== Sys2Proof/Machine/FlagsCodec.lean ====
section
/-! DEFINITION. The flags bitfield codec: FLAGS_PACK and FLAGS_UNPACK (40_flags_codec.md R77 to R80). -/

namespace Sys2Proof.Machine

/-- `flags_pack`: the source's loop, `type` first (40_flags_codec.md R77). -/
def flagsPack (f : BitVec 8) : BitVec 16 :=
  ([1, 2, 3, 4, 5, 6, 7].foldl (fun (acc : BitVec 16) i => (acc <<< 1) ||| bitOf 16 f (7 - i)) (bitOf 16 f 7)) <<< 8

/-- `flags_unpack`: flag position `i` is word bit 15 - i and register bit 7 - i (40_flags_codec.md R78). -/
def flagsUnpack (w : BitVec 16) : BitVec 8 :=
  [0, 1, 2, 3, 4, 5, 6, 7].foldl (fun (v : BitVec 8) i => v ||| (bitOf 8 w (15 - i) <<< (7 - i))) 0

/-- FLAGS_PACK (40_flags_codec.md R79). -/
def execFlagsPack (s : State) : Result :=
  .next (complete 0x1 none (s.setFlagsResult ((flagsPack (flagsOperand s)).setWidth 64)))

/-- FLAGS_UNPACK (40_flags_codec.md R80). -/
def execFlagsUnpack (s : State) : Result :=
  let w := wordOperand s
  if 0xFFFF < w.toNat then .next (raise 0x2 .FLAGS_RANGE s)
  else .next (complete 0x2 none (s.setFlagsResult ((flagsUnpack (w.setWidth 16)).setWidth 64)))

end Sys2Proof.Machine
end

