-- ==== Sys2Proof/Machine/FrameCodec.lean ====
section
/-! DEFINITION. The frame codec: FRAME_PARSE and FRAME_SERIALIZE (41_frame_codec.md R84 to R95). -/

namespace Sys2Proof.Machine

/-- A packet value (00_scope.md R13). -/
structure Packet where
  id : BitVec 16
  flags : BitVec 8
  request_address : BitVec 48
  response_address : BitVec 48
  data_window_start : BitVec 48
  data_window_end : BitVec 48
  payload : List Byte
  deriving DecidableEq, Repr

/-! ### Parse -/

/-- `byte_at(b, n, k)` for a frame `b` of `n = |b|` bytes: a missing byte is 0 (41_frame_codec.md R85). -/
def byteAt (b : List Byte) (k : Nat) : Byte := b.getD k 0

/-- The inner loop of `frame_parse`: `L` bytes from the cursor on are shifted into `acc` (41_frame_codec.md R86). -/
def accumulate (b : List Byte) (cur : Nat) : (L acc : Nat) → Nat
  | 0, acc => acc
  | L + 1, acc => accumulate b (cur + 1) L ((acc <<< 8) ||| (byteAt b cur).toNat)

/-- A header field of `L` bytes at byte offset `off`; its value is below 2^(8L) (41_frame_codec.md R86). -/
def parseField (b : List Byte) (off L : Nat) : BitVec (8 * L) := BitVec.ofNat (8 * L) (accumulate b off L 0)

/-- `frame_parse(b, |b|)`: the template's fields at their offsets, the running sums of the lengths
(30_encoding.md R59; 41_frame_codec.md R84, R86 to R88). -/
def frameParse (b : List Byte) : Packet where
  id := parseField b 0 2
  flags := flagsUnpack (parseField b 2 2)
  request_address := parseField b 4 6
  response_address := parseField b 10 6
  data_window_start := parseField b 16 6
  data_window_end := parseField b 22 6
  payload := b.drop 28

/-- The packet registers and PKT_PRESENT as FRAME_PARSE writes them (41_frame_codec.md R89). -/
def State.setPacket (s : State) (p : Packet) : State :=
  { s with
    PKT_ID := p.id.setWidth 64
    PKT_FLAGS := p.flags
    PKT_REQ := p.request_address.setWidth 64
    PKT_RSP := p.response_address.setWidth 64
    PKT_DWS := p.data_window_start.setWidth 64
    PKT_DWE := p.data_window_end.setWidth 64
    PKT_PLEN := BitVec.ofNat 64 p.payload.length
    PKT_PRESENT := { ID := true, FLAGS := true } }

/-- All that FRAME_PARSE writes but STATUS: the packet registers and PBUF[0 .. |payload|) (41_frame_codec.md R89). -/
def loadPacket (p : Packet) (s : State) : State := bufWriteBytes .PBUF 0 p.payload (s.setPacket p)

/-- FRAME_PARSE in a block whose capacity is `frameMax` (41_frame_codec.md R89, R90), the checks in the order of
60_exceptions.md R117. -/
def frameParseCommand (frameMax : Nat) (s : State) : State :=
  if frameMax < frameLength s then raise 0x3 .LEN_RANGE s
  else if strictPolicy s = true ∧ frameLength s < Config.HDR_BYTES then raise 0x3 .FRAME_SHORT s
  else complete 0x3 none (loadPacket (frameParse (frameOperand s)) s)

/-- FRAME_PARSE (41_frame_codec.md R89). -/
def execFrameParse (s : State) : Result := .next (frameParseCommand Config.FRAME_MAX s)

/-! ### Serialize -/

/-- The source's byte splitting: the `L` low bytes, low to high, reversed (41_frame_codec.md R91). A value wider than
8L bits is truncated (R93). -/
def split (v L : Nat) : List Byte :=
  ((List.range L).map (fun j => BitVec.ofNat 8 ((v >>> (8 * j)) &&& 0xFF))).reverse

/-- `frame_serialize`: header fields in template order, then the payload verbatim (41_frame_codec.md R91). -/
def frameSerialize (id : Nat) (flags : BitVec 8) (req rsp dws dwe : Nat) (payload : List Byte) : List Byte :=
  split id 2 ++ split (flagsPack flags).toNat 2 ++ split req 6 ++ split rsp 6 ++ split dws 6 ++ split dwe 6 ++ payload

/-- The frame of the packet in the packet registers and PBUF[0 .. PKT_PLEN) (41_frame_codec.md R94). -/
def packetFrame (s : State) : List Byte :=
  frameSerialize s.PKT_ID.toNat s.PKT_FLAGS s.PKT_REQ.toNat s.PKT_RSP.toNat s.PKT_DWS.toNat s.PKT_DWE.toNat
    (payloadOperand s)

/-- All that FRAME_SERIALIZE writes but STATUS: OBUF[0 .. |frame|) and OUT_LEN, which is 28 + PKT_PLEN
(41_frame_codec.md R94). -/
def storeFrame (frame : List Byte) (s : State) : State :=
  (bufWriteBytes .OBUF 0 frame s).setFrameLength (BitVec.ofNat 64 (28 + payloadLength s))

/-- FRAME_SERIALIZE in a block whose capacity is `frameMax` (41_frame_codec.md R94, R95), the checks in the order of
60_exceptions.md R117. -/
def frameSerializeCommand (frameMax : Nat) (s : State) : State :=
  if packetFieldMissing s = true then raise 0x4 .MISSING_FIELD s
  else if Config.payloadMax frameMax < payloadLength s then raise 0x4 .LEN_RANGE s
  else if strictPolicy s = true ∧ packetFieldTooWide s = true then raise 0x4 .FIELD_OVERFLOW s
  else complete 0x4 none (storeFrame (packetFrame s) s)

/-- FRAME_SERIALIZE (41_frame_codec.md R94). -/
def execFrameSerialize (s : State) : Result := .next (frameSerializeCommand Config.FRAME_MAX s)

end Sys2Proof.Machine
end

