-- ==== Sys2Proof/Machine/Dispatch.lean ====
section
/-! DEFINITION. The dispatch: one arm per command (43_control.md R112). -/

namespace Sys2Proof.Machine

/-- The execution of one command, as one atomic step (43_control.md R112). -/
def exec (i : Instr) (s : State) : Host.Outcome State Fault Refusal :=
  match i with
  | .nop => Sys2Proof.Machine.execNop s
  | .flagsPack => Sys2Proof.Machine.execFlagsPack s
  | .flagsUnpack => Sys2Proof.Machine.execFlagsUnpack s
  | .frameParse => Sys2Proof.Machine.execFrameParse s
  | .frameSerialize => Sys2Proof.Machine.execFrameSerialize s
  | .addrDecode => Sys2Proof.Machine.execAddrDecode s
  | .clear => Sys2Proof.Machine.execClear s
  | .reserved7 => Sys2Proof.Machine.execReserved7 s
  | .reserved8 => Sys2Proof.Machine.execReserved8 s
  | .reserved9 => Sys2Proof.Machine.execReserved9 s
  | .reservedA => Sys2Proof.Machine.execReservedA s
  | .reservedB => Sys2Proof.Machine.execReservedB s
  | .reservedC => Sys2Proof.Machine.execReservedC s
  | .reservedD => Sys2Proof.Machine.execReservedD s
  | .reservedE => Sys2Proof.Machine.execReservedE s
  | .reservedF => Sys2Proof.Machine.execReservedF s
  | .reservedHighBits _ opcode => Sys2Proof.Machine.execReservedHighBits opcode s

end Sys2Proof.Machine
end

