-- ==== Sys2Proof/Machine/Port.lean ====
section
/-! DEFINITION. The host port: issuing a command, the host accesses (43_control.md R108 to R112), the reset input
(70_reset_and_hazards.md R129), and taking the next pending transaction. -/

namespace Sys2Proof.Machine

/-- `issue(v)`: a host write of `v` to CMD executes the command it encodes (43_control.md R112). -/
def issue (v : Word64) (s : State) : Result := exec (decode v) s

/-- A host write of `v` to a place (43_control.md R108, R110). A byte write's data is a byte; log entry 7. -/
def writePlace (p : Place) (v : Word64) (s : State) : Result :=
  match p with
  | .register .CMD => issue v s
  | .register r => .next (regWrite r v s)
  | .byte B k => if v.toNat < 256 then .next (hostBufWrite B k (v.setWidth 8) s) else .refused .bufferDataNotAByte

/-- The value a host read of a place returns (43_control.md R109, R111); a byte is returned in bits 7:0. -/
def readPlace (p : Place) (s : State) : Word64 :=
  match p with
  | .register r => regRead r s
  | .byte B k => (bufRead B k s).setWidth 64

/-- One host access in a block whose capacity is `frameMax`; an access that is not admitted is refused
(43_control.md R108 to R111). -/
def hostAccess (frameMax : Nat) (a : Access) (s : State) : Result :=
  match a with
  | .write offset size data =>
    match locate frameMax offset size with
    | .ok p => writePlace p data s
    | .error r => .refused r
  | .read offset size =>
    match locate frameMax offset size with
    | .ok p => .next (s.respond (readPlace p s))
    | .error r => .refused r

/-- What one transaction does to the block. -/
def takeInput (i : Input) (s : State) : Result :=
  match i with
  | .access a => hostAccess Config.FRAME_MAX a s
  | .reset => .next (resetBlock s)

/-- The next pending transaction takes effect (20_memory.md R52). With none pending the block is idle and holds its
state (60_exceptions.md R128; log entry 3). -/
def advance (s : State) : Result :=
  match s.inputs with
  | [] => .next s
  | i :: rest => takeInput i (s.withInputs rest)

/-- The host transaction `WR CMD, w`: register CMD is at offset 0x000 (30_encoding.md R74). -/
def commandInput (w : Word64) : Input := .access (.write 0x000 8 w)

end Sys2Proof.Machine
end

