-- ==== Sys2Proof/Machine/Step.lean ====
section
/-! DEFINITION. One step of the machine, and where a command to run next is placed. -/

namespace Sys2Proof.Machine

/-- One step: the first pending host transaction takes effect, alone and whole (20_memory.md R50, R52). -/
def step (s : State) : Host.Outcome State Fault Refusal := advance s

/-- `s` with the host about to write the command word `w` (its bits at or above `nbits` zero) to CMD, before all that
it was about to do: the next step runs that command. Log entry 1. -/
def State.withFetchWord (s : State) (nbits w : Nat) : State :=
  s.withInputs (commandInput (BitVec.ofNat 64 (w % 2 ^ nbits)) :: s.inputs)

end Sys2Proof.Machine
end

