-- ==== Sys2Proof/Safety.lean ====
section
/-! DEFINITION. What counts as a safe run, in the terms statements use: which transactions are admitted, and the
invariant of the block's state. -/

namespace Sys2Proof.Safety

open Sys2Proof.Machine

/-! ### Admitted transactions -/

/-- Whether a host access is admitted in a block whose capacity is `frameMax`, said by the address map itself: a whole
register at a listed offset, or one byte of a buffer, below its size; a byte write's data is a byte
(20_memory.md R43 to R45, R49; 43_control.md R108 to R111). -/
def AccessAdmitted (frameMax : Nat) : Access → Prop
  | .write offset size data =>
    (size = 8 ∧ ∃ r : Reg, offset = r.offset)
      ∨ (size = 1 ∧ data.toNat < 256 ∧ ∃ B k, offset = windowBase B + k ∧ k < bufSize frameMax B)
  | .read offset size =>
    (size = 8 ∧ ∃ r : Reg, offset = r.offset)
      ∨ (size = 1 ∧ ∃ B k, offset = windowBase B + k ∧ k < bufSize frameMax B)

/-- Whether a transaction is admitted. The reset input always is. -/
def InputAdmitted : Input → Prop
  | .access a => AccessAdmitted Config.FRAME_MAX a
  | .reset => True

/-! ### The invariant -/

/-- The memory of buffer `B` is in canonical form and lists no byte outside the buffer (10_state.md R30). -/
def BufferOk (B : Buffer) (s : State) : Prop :=
  Memory.wf (s.mem B) ∧ ∀ c ∈ s.mem B, c.1 < bufSize Config.FRAME_MAX B

/-- Which opcode a command that raised `code` was issued under: the column "raised by" of 60_exceptions.md R115, and no
error for code 0; codes 7 to 15 are never raised. -/
def CodeRaisedBy (code op : BitVec 4) : Prop :=
  code = 0 ∨ (code = ErrorCause.code .FLAGS_RANGE ∧ op = 0x2)
    ∨ (code = ErrorCause.code .LEN_RANGE ∧ (op = 0x3 ∨ op = 0x4))
    ∨ (code = ErrorCause.code .MISSING_FIELD ∧ op = 0x4)
    ∨ (code = ErrorCause.code .FRAME_SHORT ∧ op = 0x3)
    ∨ (code = ErrorCause.code .FIELD_OVERFLOW ∧ op = 0x4)
    ∨ code = ErrorCause.code .BAD_CMD

/-- STATUS holds what commands leave in it (10_state.md R34; 60_exceptions.md R115): ERR tells whether ERR_CODE is an
error, an error sets ERR_STICKY, and before the first command STATUS is 0. -/
def StatusOk (st : Status) : Prop :=
  CodeRaisedBy st.ERR_CODE st.LAST_OP ∧ (st.ERR = true ↔ st.ERR_CODE ≠ 0)
    ∧ (st.ERR = true → st.ERR_STICKY = true)
    ∧ (st.DONE = false → statusWord st = 0)

/-- The results of the address decoder agree: ADDR_TGT is the target of the three ids (42_address_decoder.md R100;
after reset and CLEAR all are 0). -/
def TargetOk (s : State) : Prop := s.ADDR_TGT = targetSelect s.ADDR_SVC s.ADDR_CMP s.ADDR_RES

/-- FLG_OUT holds a flags word or a flags value, so its bits 63:16 are 0 (10_state.md R19). -/
def FlagsResultOk (s : State) : Prop := s.FLG_OUT.toNat < 2 ^ 16

/-- OUT_LEN is 0 or the length of a frame that OBUF holds (10_state.md R32; 41_frame_codec.md R94). -/
def FrameResultOk (s : State) : Prop :=
  s.OUT_LEN = 0 ∨ (Config.HDR_BYTES ≤ s.OUT_LEN.toNat ∧ s.OUT_LEN.toNat ≤ Config.FRAME_MAX)

/-- The invariant of the block: what only the block writes stays as the rules leave it. -/
structure Inv (s : State) : Prop where
  ibuf : BufferOk .IBUF s
  obuf : BufferOk .OBUF s
  pbuf : BufferOk .PBUF s
  status : StatusOk s.STATUS
  target : TargetOk s
  flagsResult : FlagsResultOk s
  frameResult : FrameResultOk s

end Sys2Proof.Safety
end

