-- ==== Sys2Proof/WellFormed.lean ====
section
/-! DEFINITION. Which commands some command word encodes. -/

namespace Sys2Proof

/-- A command with reserved bits has at least one of them set (30_encoding.md R70; the row RESERVED_HIGH_BITS of
spec/opcode_table.json: "at least one bit 1"). No other command has a field to check. -/
def Instr.wellFormed : Instr → Bool
  | .nop => true
  | .flagsPack => true
  | .flagsUnpack => true
  | .frameParse => true
  | .frameSerialize => true
  | .addrDecode => true
  | .clear => true
  | .reserved7 => true
  | .reserved8 => true
  | .reserved9 => true
  | .reservedA => true
  | .reservedB => true
  | .reservedC => true
  | .reservedD => true
  | .reservedE => true
  | .reservedF => true
  | .reservedHighBits reserved _ => reserved != 0

end Sys2Proof
end

