-- ==== Sys2Proof/Certificates/Slice0/Obligations.lean ====
section
/-! DEFINITION. The statements for the provers. The helpers under `Sys2Proof.Stated` write the spec's tables and formulas
out in plain arithmetic, apart from the model's own functions. -/

open Sys2Proof Sys2Proof.Machine Sys2Proof.Safety

/-! ### The spec's tables and formulas -/

/-- STATUS after a command of opcode `op` without error (43_control.md R113). -/
def Sys2Proof.Stated.okStatus (op : BitVec 4) (old : Status) : Status :=
  { DONE := true, ERR := false, ERR_STICKY := old.ERR_STICKY, ERR_CODE := 0, LAST_OP := op }

/-- STATUS after a command of opcode `op` that raised the error of code `code` (43_control.md R113). -/
def Sys2Proof.Stated.errStatus (op code : BitVec 4) : Status :=
  { DONE := true, ERR := true, ERR_STICKY := true, ERR_CODE := code, LAST_OP := op }

/-- `byte_at(IBUF, IN_LEN, k)` (41_frame_codec.md R85). -/
def Sys2Proof.Stated.frameByte (s : State) (k : Nat) : Byte :=
  if k < s.IN_LEN.toNat then bufRead .IBUF k s else 0

/-- `field(IBUF, IN_LEN, off, L)` (41_frame_codec.md R85). -/
def Sys2Proof.Stated.headerField (s : State) (off L : Nat) : Nat :=
  beJoin ((List.range L).map (fun i => Stated.frameByte s (off + i)))

/-- `field(b, |b|, off, L)` (41_frame_codec.md R85). -/
def Sys2Proof.Stated.listField (b : List Byte) (off L : Nat) : Nat :=
  beJoin ((List.range L).map (fun i => b.getD (off + i) 0))

/-- The 28 header bytes of the packet in the packet registers: id, flags word, addresses, each big-endian
(30_encoding.md R59, R62; 41_frame_codec.md R91). -/
def Sys2Proof.Stated.headerBytes (s : State) : List Byte :=
  beSplit s.PKT_ID.toNat 2 ++ [s.PKT_FLAGS, 0] ++ beSplit s.PKT_REQ.toNat 6 ++ beSplit s.PKT_RSP.toNat 6
    ++ beSplit s.PKT_DWS.toNat 6 ++ beSplit s.PKT_DWE.toNat 6

/-- Both mandatory packet fields hold a value (10_state.md R29). -/
abbrev Sys2Proof.Stated.packetComplete (s : State) : Prop := s.PKT_PRESENT.ID = true ∧ s.PKT_PRESENT.FLAGS = true

/-- A packet register is over-width (41_frame_codec.md R95). -/
abbrev Sys2Proof.Stated.overWidth (s : State) : Prop :=
  2 ^ 16 ≤ s.PKT_ID.toNat ∨ 2 ^ 48 ≤ s.PKT_REQ.toNat ∨ 2 ^ 48 ≤ s.PKT_RSP.toNat ∨ 2 ^ 48 ≤ s.PKT_DWS.toNat
    ∨ 2 ^ 48 ≤ s.PKT_DWE.toNat

/-- The codes of the entity kinds (30_encoding.md R65). -/
def Sys2Proof.Stated.kindCode : TargetKind → Nat
  | .NONE => 0
  | .SERVICE => 1
  | .COMPONENT => 2
  | .RESOURCE => 3

/-- The error code a command leaves in STATUS, from its causes (60_exceptions.md R115) in their order (R117). -/
def Sys2Proof.Stated.errorCode (i : Instr) (s : State) : BitVec 4 :=
  match i with
  | .nop => 0
  | .flagsPack => 0
  | .flagsUnpack => if 0xFFFF < s.FLG_IN.toNat then 1 else 0
  | .frameParse =>
    if Config.FRAME_MAX < s.IN_LEN.toNat then 2 else if s.CTRL.STRICT = true ∧ s.IN_LEN.toNat < 28 then 4 else 0
  | .frameSerialize =>
    if ¬ Stated.packetComplete s then 3
    else if Config.FRAME_MAX - 28 < s.PKT_PLEN.toNat then 2
    else if s.CTRL.STRICT = true ∧ Stated.overWidth s then 5 else 0
  | .addrDecode => 0
  | .clear => 0
  | .reserved7 => 6
  | .reserved8 => 6
  | .reserved9 => 6
  | .reservedA => 6
  | .reservedB => 6
  | .reservedC => 6
  | .reservedD => 6
  | .reservedE => 6
  | .reservedF => 6
  | .reservedHighBits _ _ => 6

/-- `t` holds the same packet as `s` in the packet registers and PKT_PRESENT (10_state.md R25 to R29). -/
def Sys2Proof.Stated.samePacket (s t : State) : Prop :=
  t.PKT_ID = s.PKT_ID ∧ t.PKT_FLAGS = s.PKT_FLAGS ∧ t.PKT_REQ = s.PKT_REQ ∧ t.PKT_RSP = s.PKT_RSP
    ∧ t.PKT_DWS = s.PKT_DWS ∧ t.PKT_DWE = s.PKT_DWE ∧ t.PKT_PLEN = s.PKT_PLEN ∧ t.PKT_PRESENT = s.PKT_PRESENT

/-- What a host write at a register's offset does: the step answers `f v` of the state whose first transaction is
taken. -/
def Sys2Proof.Stated.WriteEffect (offset : Nat) (f : Word64 → State → State) : Prop :=
  ∀ (s : State) (v : Word64) (rest : List Input), s.inputs = .access (.write offset 8 v) :: rest →
    step s = .next (f v { s with inputs := rest })

/-- What a host read at a register's offset returns, and that it does nothing else. -/
def Sys2Proof.Stated.ReadValue (offset : Nat) (g : State → Nat) : Prop :=
  ∀ (s : State) (rest : List Input), s.inputs = .access (.read offset 8) :: rest →
    ∃ v : Word64, v.toNat = g s ∧ step s = .next { s with inputs := rest, responses := s.responses ++ [v] }

/-- Every register holds the value of 70_reset_and_hazards.md R130. -/
def Sys2Proof.Stated.registersAtReset (s : State) : Prop :=
  s.FLG_IN = 0 ∧ s.FLG_OUT = 0 ∧ s.ADDR_IN = 0 ∧ s.ADDR_SVC = 0 ∧ s.ADDR_CMP = 0 ∧ s.ADDR_RES = 0
    ∧ s.ADDR_TGT = { TGT_KIND := .NONE, TGT_ID := 0 }
    ∧ s.PKT_ID = 0 ∧ s.PKT_FLAGS = 0 ∧ s.PKT_REQ = 0 ∧ s.PKT_RSP = 0 ∧ s.PKT_DWS = 0 ∧ s.PKT_DWE = 0
    ∧ s.PKT_PLEN = 0 ∧ s.PKT_PRESENT = { ID := false, FLAGS := false } ∧ s.IN_LEN = 0 ∧ s.OUT_LEN = 0
    ∧ s.CTRL = { STRICT := false }

/-! ### Command words -/

/-- R76: the seven command words. -/
def Obligations.CommandWordsAreZeroToSix : Prop :=
  (decode 0 = .nop ∧ decode 1 = .flagsPack ∧ decode 2 = .flagsUnpack ∧ decode 3 = .frameParse
    ∧ decode 4 = .frameSerialize ∧ decode 5 = .addrDecode ∧ decode 6 = .clear)
  ∧ (encode .nop = 0 ∧ encode .flagsPack = 1 ∧ encode .flagsUnpack = 2 ∧ encode .frameParse = 3
    ∧ encode .frameSerialize = 4 ∧ encode .addrDecode = 5 ∧ encode .clear = 6)

/-- R67 to R70: every well-formed command is read back from its word. -/
def Obligations.DecodeInvertsEncode : Prop := ∀ i : Instr, i.wellFormed = true → decode (encode i) = i

/-- R71: every one of the 2^64 words is the word of the command it decodes to, and of no other. -/
def Obligations.EveryWordEncodesOneCommand : Prop :=
  ∀ w : Word64, (decode w).wellFormed = true ∧ encode (decode w) = w
    ∧ ∀ i : Instr, i.wellFormed = true → encode i = w → i = decode w

/-- R71: a word is one of the seven commands exactly when it is 0x0 to 0x6; every other word is illegal. -/
def Obligations.WordsAboveSixAreIllegal : Prop :=
  ∀ w : Word64,
    (decode w ∈ [Instr.nop, .flagsPack, .flagsUnpack, .frameParse, .frameSerialize, .addrDecode, .clear] ↔ w.toNat ≤ 6)
    ∧ (6 < w.toNat → ∀ s : State,
        exec (decode w) s = .next { s with STATUS := Stated.errStatus (w.extractLsb' 0 4) 6 })

/-- R112: a host write to CMD executes the command, as one atomic step that always completes. -/
def Obligations.CommandIssueSelectsByWord : Prop :=
  ∀ (s : State) (v : Word64) (rest : List Input), s.inputs = .access (.write 0x000 8 v) :: rest →
    (∃ t, step s = .next t)
    ∧ (6 < v.toNat →
        step s = .next { s with inputs := rest, STATUS := Stated.errStatus (v.extractLsb' 0 4) 6 })
    ∧ (v = 0 → step s = exec .nop { s with inputs := rest })
    ∧ (v = 1 → step s = exec .flagsPack { s with inputs := rest })
    ∧ (v = 2 → step s = exec .flagsUnpack { s with inputs := rest })
    ∧ (v = 3 → step s = exec .frameParse { s with inputs := rest })
    ∧ (v = 4 → step s = exec .frameSerialize { s with inputs := rest })
    ∧ (v = 5 → step s = exec .addrDecode { s with inputs := rest })
    ∧ (v = 6 → step s = exec .clear { s with inputs := rest })

/-- A step runs the decoded command: when the host's next transaction writes `v` to CMD, the step is `exec` of the
command `v` decodes to, at the state whose first transaction is taken; and `withFetchWord` places such a
transaction. -/
def Obligations.StepRunsTheDecodedCommand : Prop :=
  (∀ (s : State) (v : Word64) (rest : List Input), s.inputs = .access (.write 0x000 8 v) :: rest →
    step s = exec (decode v) { s with inputs := rest })
  ∧ ∀ (s : State) (nbits w : Nat), step (s.withFetchWord nbits w) = exec (decode (BitVec.ofNat 64 (w % 2 ^ nbits))) s

/-- What a step does with every other pending transaction, and with none: an access is taken at the block's own
capacity, a reset pulse resets, and an idle block holds its state. -/
def Obligations.StepTakesTheFirstTransaction : Prop :=
  (∀ s : State, s.inputs = [] → step s = .next s)
  ∧ (∀ (s : State) (rest : List Input), s.inputs = .reset :: rest → step s = .next (resetBlock { s with inputs := rest }))
  ∧ ∀ (s : State) (a : Access) (rest : List Input), s.inputs = .access a :: rest →
      step s = hostAccess Config.FRAME_MAX a { s with inputs := rest }

/-! ### Control commands -/

/-- R105. -/
def Obligations.NopWritesStatusOnly : Prop :=
  ∀ s : State, exec .nop s = .next { s with STATUS := Stated.okStatus 0x0 s.STATUS }

/-- R106: CLEAR. -/
def Obligations.ClearResetsEveryRegister : Prop :=
  ∀ s : State, ∃ t, exec .clear s = .next t ∧ Stated.registersAtReset t
    ∧ t.STATUS = { DONE := true, ERR := false, ERR_STICKY := false, ERR_CODE := 0, LAST_OP := 0x6 }
    ∧ (∀ B k, bufRead B k t = bufRead B k s)
    ∧ t.IBUF = s.IBUF ∧ t.OBUF = s.OBUF ∧ t.PBUF = s.PBUF
    ∧ t.inputs = s.inputs ∧ t.responses = s.responses ∧ t.epoch = s.epoch

/-- R107, R69, R70: the reserved command words raise BAD_CMD, always, and change STATUS only. -/
def Obligations.ReservedCommandsRaiseBadCmd : Prop :=
  ∀ s : State,
    exec .reserved7 s = .next { s with STATUS := Stated.errStatus 0x7 6 }
    ∧ exec .reserved8 s = .next { s with STATUS := Stated.errStatus 0x8 6 }
    ∧ exec .reserved9 s = .next { s with STATUS := Stated.errStatus 0x9 6 }
    ∧ exec .reservedA s = .next { s with STATUS := Stated.errStatus 0xA 6 }
    ∧ exec .reservedB s = .next { s with STATUS := Stated.errStatus 0xB 6 }
    ∧ exec .reservedC s = .next { s with STATUS := Stated.errStatus 0xC 6 }
    ∧ exec .reservedD s = .next { s with STATUS := Stated.errStatus 0xD 6 }
    ∧ exec .reservedE s = .next { s with STATUS := Stated.errStatus 0xE 6 }
    ∧ exec .reservedF s = .next { s with STATUS := Stated.errStatus 0xF 6 }
    ∧ ∀ (reserved : BitVec 60) (opcode : BitVec 4),
        exec (.reservedHighBits reserved opcode) s = .next { s with STATUS := Stated.errStatus opcode 6 }

/-! ### Flags codec -/

/-- R62, R63: the flag at position `i` is bit 15 - i of the flags word and bit 7 - i of the flags value; the low 8 bits
of the word are 0 on encode and ignored on decode. -/
def Obligations.FlagsWordLayout : Prop :=
  (∀ (f : BitVec 8) (i : Nat), i < 8 → (flagsPack f).getLsbD (15 - i) = f.getLsbD (7 - i))
  ∧ (∀ (f : BitVec 8) (i : Nat), i < 8 → (flagsPack f).getLsbD i = false)
  ∧ (∀ (w : BitVec 16) (i : Nat), i < 8 → (flagsUnpack w).getLsbD (7 - i) = w.getLsbD (15 - i))
  ∧ ∀ v w : BitVec 16, v.toNat / 2 ^ 8 = w.toNat / 2 ^ 8 → flagsUnpack v = flagsUnpack w

/-- R79: FLAGS_PACK. -/
def Obligations.FlagsPackResult : Prop :=
  ∀ s : State, ∃ v : Word64, v.toNat = s.FLG_IN.toNat % 2 ^ 8 * 2 ^ 8
    ∧ exec .flagsPack s = .next { s with FLG_OUT := v, STATUS := Stated.okStatus 0x1 s.STATUS }

/-- R80: FLAGS_UNPACK. -/
def Obligations.FlagsUnpackResult : Prop :=
  ∀ s : State,
    (s.FLG_IN.toNat ≤ 0xFFFF → ∃ v : Word64, v.toNat = s.FLG_IN.toNat / 2 ^ 8
      ∧ exec .flagsUnpack s = .next { s with FLG_OUT := v, STATUS := Stated.okStatus 0x2 s.STATUS })
    ∧ (0xFFFF < s.FLG_IN.toNat → exec .flagsUnpack s = .next { s with STATUS := Stated.errStatus 0x2 1 })

/-- R82: the round-trip laws, of the functions and of the commands. -/
def Obligations.FlagsRoundTrip : Prop :=
  (∀ w : BitVec 16, flagsPack (flagsUnpack w) = w &&& 0xFF00)
  ∧ (∀ f : BitVec 8, flagsUnpack (flagsPack f) = f)
  ∧ ∀ s : State, s.FLG_IN.toNat ≤ 0xFFFF → ∃ t u, exec .flagsUnpack s = .next t
      ∧ exec .flagsPack { t with FLG_IN := t.FLG_OUT } = .next u ∧ u.FLG_OUT = s.FLG_IN &&& 0xFF00

/-! ### Frame codec -/

/-- R86: the loop of `frame_parse` computes the fields of R85, for a buffer of any length. -/
def Obligations.ParseLoopComputesTheFields : Prop :=
  ∀ b : List Byte,
    (frameParse b).id.toNat = Stated.listField b 0 2
    ∧ (frameParse b).flags.toNat = Stated.listField b 2 2 / 2 ^ 8
    ∧ (frameParse b).request_address.toNat = Stated.listField b 4 6
    ∧ (frameParse b).response_address.toNat = Stated.listField b 10 6
    ∧ (frameParse b).data_window_start.toNat = Stated.listField b 16 6
    ∧ (frameParse b).data_window_end.toNat = Stated.listField b 22 6
    ∧ (frameParse b).payload = b.drop 28

/-- R60: each header field of a frame of at least 28 bytes is the big-endian value of its bytes and a bit field of the
224-bit header value. -/
def Obligations.HeaderFieldsAreBitsOfTheHeader : Prop :=
  ∀ b : List Byte, 28 ≤ b.length →
    ((frameParse b).id.toNat = beJoin (b.take 2)
      ∧ (frameParse b).flags = flagsUnpack (BitVec.ofNat 16 (beJoin ((b.drop 2).take 2)))
      ∧ (frameParse b).request_address.toNat = beJoin ((b.drop 4).take 6)
      ∧ (frameParse b).response_address.toNat = beJoin ((b.drop 10).take 6)
      ∧ (frameParse b).data_window_start.toNat = beJoin ((b.drop 16).take 6)
      ∧ (frameParse b).data_window_end.toNat = beJoin ((b.drop 22).take 6))
    ∧ beJoin (b.take 2) = beJoin (b.take 28) / 2 ^ 208 % 2 ^ 16
    ∧ beJoin ((b.drop 2).take 2) = beJoin (b.take 28) / 2 ^ 192 % 2 ^ 16
    ∧ beJoin ((b.drop 4).take 6) = beJoin (b.take 28) / 2 ^ 144 % 2 ^ 48
    ∧ beJoin ((b.drop 10).take 6) = beJoin (b.take 28) / 2 ^ 96 % 2 ^ 48
    ∧ beJoin ((b.drop 16).take 6) = beJoin (b.take 28) / 2 ^ 48 % 2 ^ 48
    ∧ beJoin ((b.drop 22).take 6) = beJoin (b.take 28) % 2 ^ 48

/-- R89: FRAME_PARSE, its errors in their order, its results and its frame, for a block of any admissible capacity;
the machine's FRAME_PARSE is that of its own capacity and always answers a next state. -/
def Obligations.FrameParseResult : Prop :=
  (∀ s : State, exec .frameParse s = .next (frameParseCommand Config.FRAME_MAX s))
  ∧ 28 ≤ Config.FRAME_MAX ∧ Config.FRAME_MAX ≤ 2 ^ 24
  ∧ ∀ (frameMax : Nat) (s : State), 28 ≤ frameMax → frameMax ≤ 2 ^ 24 →
    (frameMax < s.IN_LEN.toNat → frameParseCommand frameMax s = { s with STATUS := Stated.errStatus 0x3 2 })
    ∧ (s.IN_LEN.toNat ≤ frameMax → s.CTRL.STRICT = true → s.IN_LEN.toNat < 28 →
        frameParseCommand frameMax s = { s with STATUS := Stated.errStatus 0x3 4 })
    ∧ (s.IN_LEN.toNat ≤ frameMax → (s.CTRL.STRICT = false ∨ 28 ≤ s.IN_LEN.toNat) →
        ∃ t, frameParseCommand frameMax s = t
          ∧ t = { s with
              PKT_ID := t.PKT_ID, PKT_FLAGS := t.PKT_FLAGS, PKT_REQ := t.PKT_REQ, PKT_RSP := t.PKT_RSP
              PKT_DWS := t.PKT_DWS, PKT_DWE := t.PKT_DWE, PKT_PLEN := t.PKT_PLEN
              PKT_PRESENT := { ID := true, FLAGS := true }
              PBUF := t.PBUF, STATUS := Stated.okStatus 0x3 s.STATUS }
          ∧ t.PKT_ID.toNat = Stated.headerField s 0 2
          ∧ t.PKT_FLAGS.toNat = Stated.headerField s 2 2 / 2 ^ 8
          ∧ t.PKT_REQ.toNat = Stated.headerField s 4 6
          ∧ t.PKT_RSP.toNat = Stated.headerField s 10 6
          ∧ t.PKT_DWS.toNat = Stated.headerField s 16 6
          ∧ t.PKT_DWE.toNat = Stated.headerField s 22 6
          ∧ t.PKT_PLEN.toNat = s.IN_LEN.toNat - 28
          ∧ (∀ k, k < s.IN_LEN.toNat - 28 → bufRead .PBUF k t = bufRead .IBUF (28 + k) s)
          ∧ ∀ k, s.IN_LEN.toNat - 28 ≤ k → bufRead .PBUF k t = bufRead .PBUF k s)

/-- R90: the strict policy refuses a short frame and parses every other frame as the lenient policy does. -/
def Obligations.StrictParseDiffersOnlyOnShortFrames : Prop :=
  ∀ s : State,
    (s.CTRL.STRICT = true → s.IN_LEN.toNat < 28 →
      exec .frameParse s = .next { s with STATUS := Stated.errStatus 0x3 4 })
    ∧ (28 ≤ s.IN_LEN.toNat → ∃ t, exec .frameParse { s with CTRL := { STRICT := false } } = .next t
        ∧ exec .frameParse { s with CTRL := { STRICT := true } } = .next { t with CTRL := { STRICT := true } })

/-- R91: a serialized frame is 28 bytes and the payload verbatim; its fixed fields are big-endian, low bits kept, and
byte 3 is always 0. -/
def Obligations.SerializedFrameLayout : Prop :=
  ∀ (id : Nat) (flags : BitVec 8) (req rsp dws dwe : Nat) (payload : List Byte),
    (frameSerialize id flags req rsp dws dwe payload).length = 28 + payload.length
    ∧ (frameSerialize id flags req rsp dws dwe payload).drop 28 = payload
    ∧ (frameSerialize id flags req rsp dws dwe payload).getD 3 0xFF = 0
    ∧ Stated.listField (frameSerialize id flags req rsp dws dwe payload) 0 2 = id % 2 ^ 16
    ∧ Stated.listField (frameSerialize id flags req rsp dws dwe payload) 2 2 = (flagsPack flags).toNat
    ∧ Stated.listField (frameSerialize id flags req rsp dws dwe payload) 4 6 = req % 2 ^ 48
    ∧ Stated.listField (frameSerialize id flags req rsp dws dwe payload) 10 6 = rsp % 2 ^ 48
    ∧ Stated.listField (frameSerialize id flags req rsp dws dwe payload) 16 6 = dws % 2 ^ 48
    ∧ Stated.listField (frameSerialize id flags req rsp dws dwe payload) 22 6 = dwe % 2 ^ 48

/-- R94, R95: FRAME_SERIALIZE, its errors in their order, its results and its frame, for a block of any admissible
capacity; the machine's FRAME_SERIALIZE is that of its own capacity and always answers a next state. -/
def Obligations.FrameSerializeResult : Prop :=
  (∀ s : State, exec .frameSerialize s = .next (frameSerializeCommand Config.FRAME_MAX s))
  ∧ 28 ≤ Config.FRAME_MAX ∧ Config.FRAME_MAX ≤ 2 ^ 24
  ∧ ∀ (frameMax : Nat) (s : State), 28 ≤ frameMax → frameMax ≤ 2 ^ 24 →
    (¬ Stated.packetComplete s → frameSerializeCommand frameMax s = { s with STATUS := Stated.errStatus 0x4 3 })
    ∧ (Stated.packetComplete s → frameMax - 28 < s.PKT_PLEN.toNat →
        frameSerializeCommand frameMax s = { s with STATUS := Stated.errStatus 0x4 2 })
    ∧ (Stated.packetComplete s → s.PKT_PLEN.toNat ≤ frameMax - 28 → s.CTRL.STRICT = true → Stated.overWidth s →
        frameSerializeCommand frameMax s = { s with STATUS := Stated.errStatus 0x4 5 })
    ∧ (Stated.packetComplete s → s.PKT_PLEN.toNat ≤ frameMax - 28 → ¬ (s.CTRL.STRICT = true ∧ Stated.overWidth s) →
        ∃ t, frameSerializeCommand frameMax s = t
          ∧ t = { s with OBUF := t.OBUF, OUT_LEN := t.OUT_LEN, STATUS := Stated.okStatus 0x4 s.STATUS }
          ∧ t.OUT_LEN.toNat = 28 + s.PKT_PLEN.toNat
          ∧ (∀ k, k < 28 → bufRead .OBUF k t = (Stated.headerBytes s).getD k 0)
          ∧ (∀ k, k < s.PKT_PLEN.toNat → bufRead .OBUF (28 + k) t = bufRead .PBUF k s)
          ∧ ∀ k, 28 + s.PKT_PLEN.toNat ≤ k → bufRead .OBUF k t = bufRead .OBUF k s)

/-- R92: a field nobody wrote since reset encodes as zero bytes and an empty payload; the mandatory fields are not
defaulted. -/
def Obligations.AbsentFieldsEncodeAsZero : Prop :=
  (State.reset.PKT_REQ = 0 ∧ State.reset.PKT_RSP = 0 ∧ State.reset.PKT_DWS = 0 ∧ State.reset.PKT_DWE = 0
    ∧ State.reset.PKT_PLEN = 0)
  ∧ (∀ s : State, Stated.packetComplete s →
    s.PKT_REQ = 0 ∧ s.PKT_RSP = 0 ∧ s.PKT_DWS = 0 ∧ s.PKT_DWE = 0 ∧ s.PKT_PLEN = 0 → s.CTRL.STRICT = false →
    ∃ t, exec .frameSerialize s = .next t ∧ t.STATUS.ERR = false ∧ t.OUT_LEN.toNat = 28
      ∧ (∀ k, 4 ≤ k → k < 28 → bufRead .OBUF k t = 0)
      ∧ ∀ k, 28 ≤ k → bufRead .OBUF k t = bufRead .OBUF k s)
  ∧ ∀ s : State, ¬ Stated.packetComplete s →
    exec .frameSerialize s = .next { s with STATUS := Stated.errStatus 0x4 3 }

/-- R96: serialize, copy OBUF to IBUF, parse: the packet comes back, under either policy. -/
def Obligations.SerializeThenParseKeepsThePacket : Prop :=
  ∀ s : State, s.PKT_PRESENT = { ID := true, FLAGS := true } → s.PKT_ID.toNat < 2 ^ 16 → s.PKT_REQ.toNat < 2 ^ 48 →
    s.PKT_RSP.toNat < 2 ^ 48 → s.PKT_DWS.toNat < 2 ^ 48 → s.PKT_DWE.toNat < 2 ^ 48 →
    s.PKT_PLEN.toNat ≤ Config.PAYLOAD_MAX →
    ∃ t, exec .frameSerialize s = .next t ∧ t.STATUS.ERR = false
      ∧ ∀ m : Memory,
          (∀ k, k < t.OUT_LEN.toNat → bufRead .IBUF k { t with IBUF := m, IN_LEN := t.OUT_LEN } = bufRead .OBUF k t) →
          ∃ u, exec .frameParse { t with IBUF := m, IN_LEN := t.OUT_LEN } = .next u ∧ u.STATUS.ERR = false
            ∧ Stated.samePacket s u ∧ ∀ k, k < s.PKT_PLEN.toNat → bufRead .PBUF k u = bufRead .PBUF k s

/-- R97: parse, then serialize: the frame comes back, zero-padded to 28 bytes and with byte 3 replaced by 0. -/
def Obligations.ParseThenSerializeKeepsTheFrame : Prop :=
  ∀ s : State, s.IN_LEN.toNat ≤ Config.FRAME_MAX → (28 ≤ s.IN_LEN.toNat ∨ s.CTRL.STRICT = false) →
    ∃ t u, exec .frameParse s = .next t ∧ exec .frameSerialize t = .next u
      ∧ t.STATUS.ERR = false ∧ u.STATUS.ERR = false
      ∧ u.OUT_LEN.toNat = max 28 s.IN_LEN.toNat
      ∧ ∀ k, k < max 28 s.IN_LEN.toNat →
          bufRead .OBUF k u = if k = 3 then 0 else if k < s.IN_LEN.toNat then bufRead .IBUF k s else 0

/-! ### Address decoder -/

/-- R101: ADDR_DECODE. -/
def Obligations.AddrDecodeResult : Prop :=
  ∀ s : State, ∃ (svc cmp res : BitVec 16) (target : Target),
    svc.toNat = s.ADDR_IN.toNat / 2 ^ 32 % 2 ^ 16 ∧ cmp.toNat = s.ADDR_IN.toNat / 2 ^ 16 % 2 ^ 16
    ∧ res.toNat = s.ADDR_IN.toNat % 2 ^ 16
    ∧ (res ≠ 0 → target = { TGT_KIND := .RESOURCE, TGT_ID := res })
    ∧ (res = 0 → cmp ≠ 0 → target = { TGT_KIND := .COMPONENT, TGT_ID := cmp })
    ∧ (res = 0 → cmp = 0 → svc ≠ 0 → target = { TGT_KIND := .SERVICE, TGT_ID := svc })
    ∧ (res = 0 → cmp = 0 → svc = 0 → target = { TGT_KIND := .NONE, TGT_ID := 0 })
    ∧ exec .addrDecode s = .next { s with
        ADDR_SVC := svc, ADDR_CMP := cmp, ADDR_RES := res, ADDR_TGT := target
        STATUS := Stated.okStatus 0x5 s.STATUS }

/-- R102: the zero address completes without error, and only it has no target. -/
def Obligations.NoTargetExactlyForTheZeroAddress : Prop :=
  ∀ s : State, ∃ t, exec .addrDecode s = .next t ∧ t.STATUS.ERR = false
    ∧ (t.ADDR_TGT.TGT_KIND = .NONE ↔ s.ADDR_IN.toNat % 2 ^ 48 = 0)

/-- R103: bits 63:48 of ADDR_IN make no difference to ADDR_DECODE, and the addresses FRAME_PARSE writes have none. -/
def Obligations.AddrDecodeIgnoresHighBits : Prop :=
  (∀ (s : State) (v : Word64), v.toNat % 2 ^ 48 = s.ADDR_IN.toNat % 2 ^ 48 →
    ∃ t, exec .addrDecode s = .next t ∧ exec .addrDecode { s with ADDR_IN := v } = .next { t with ADDR_IN := v })
  ∧ ∀ s t : State, exec .frameParse s = .next t → t.STATUS.ERR = false →
      t.PKT_REQ.toNat < 2 ^ 48 ∧ t.PKT_RSP.toNat < 2 ^ 48 ∧ t.PKT_DWS.toNat < 2 ^ 48 ∧ t.PKT_DWE.toNat < 2 ^ 48

/-- R104: an address is the sum of its decoded parts, every triple is the decode of exactly one address, and
FRAME_PARSE decodes none. -/
def Obligations.AddressDecomposition : Prop :=
  (∀ a : BitVec 48,
    a.toNat = (addrDecode a).1.toNat * 2 ^ 32 + (addrDecode a).2.1.toNat * 2 ^ 16 + (addrDecode a).2.2.toNat)
  ∧ (∀ svc cmp res : BitVec 16, ∃ a : BitVec 48, addrDecode a = (svc, cmp, res)
      ∧ ∀ a' : BitVec 48, addrDecode a' = (svc, cmp, res) → a' = a)
  ∧ ∀ s : State, ∃ t, exec .frameParse s = .next t ∧ t.ADDR_SVC = s.ADDR_SVC ∧ t.ADDR_CMP = s.ADDR_CMP
      ∧ t.ADDR_RES = s.ADDR_RES ∧ t.ADDR_TGT = s.ADDR_TGT

/-! ### Completion and errors, over all commands -/

/-- R113, R112, R39: every command completes; but for CLEAR it leaves in STATUS what `complete` writes, and a command
that raises changes nothing else. -/
def Obligations.EveryCommandCompletes : Prop :=
  ∀ (i : Instr) (s : State), ∃ t, exec i s = .next t
    ∧ (i ≠ .clear → ∃ code : BitVec 4, code.toNat ≤ 6
        ∧ (code = 0 → t.STATUS = Stated.okStatus i.opcode s.STATUS)
        ∧ (code ≠ 0 → t = { s with STATUS := Stated.errStatus i.opcode code }))
    ∧ (i = .clear → t.STATUS = Stated.okStatus 0x6 { s.STATUS with ERR_STICKY := false })

/-- R115, R117: the error code every command leaves in STATUS, from its causes in their order; an error records nothing
but the code and the opcode. -/
def Obligations.ErrorCodesHaveTheirCauses : Prop :=
  ∀ (i : Instr) (s : State), ∃ t, exec i s = .next t ∧ t.STATUS.ERR_CODE = Stated.errorCode i s
    ∧ (t.STATUS.ERR = true ↔ Stated.errorCode i s ≠ 0)
    ∧ (Stated.errorCode i s ≠ 0 → t = { s with STATUS := Stated.errStatus i.opcode (Stated.errorCode i s) })

/-- R116: a command that raises an error changes STATUS and nothing else, and the next command runs. -/
def Obligations.ErrorsChangeStatusOnly : Prop :=
  ∀ (i : Instr) (s t : State), exec i s = .next t → t.STATUS.ERR = true →
    t = { s with STATUS := Stated.errStatus i.opcode t.STATUS.ERR_CODE } ∧ t.STATUS.ERR_CODE ≠ 0
    ∧ ∀ j : Instr, ∃ u, exec j t = .next u

/-- R34, R121: ERR_STICKY is set by every error, kept otherwise, and cleared by CLEAR and the reset input alone. -/
def Obligations.StickyErrorStaysUntilClearOrReset : Prop :=
  ∀ s t : State, step s = .next t → s.STATUS.ERR_STICKY = true →
    t.STATUS.ERR_STICKY = true
    ∨ (∃ rest, s.inputs = .reset :: rest)
    ∨ (∃ rest, s.inputs = .access (.write 0x000 8 6) :: rest)

/-- R35: the policy bit is read by FRAME_PARSE and FRAME_SERIALIZE only. -/
def Obligations.StrictBitIsReadByFrameCommandsOnly : Prop :=
  ∀ (i : Instr) (s : State) (c : Ctrl), i ≠ .frameParse → i ≠ .frameSerialize →
    ∃ t u, exec i s = .next t ∧ exec i { s with CTRL := c } = .next u ∧ u = { t with CTRL := u.CTRL }
      ∧ (i ≠ .clear → t.CTRL = s.CTRL ∧ u.CTRL = c)

/-- R30: what commands read of the buffers: FRAME_PARSE the bytes of IBUF below IN_LEN, FRAME_SERIALIZE the bytes of
PBUF below PKT_PLEN, and no other byte makes a difference to any command. -/
def Obligations.CommandsReadBuffersBelowTheirLengths : Prop :=
  ∀ (i : Instr) (s : State) (m : Memory), ∃ t, exec i s = .next t
    ∧ ((i = .frameParse → ∀ k, k < s.IN_LEN.toNat → bufRead .IBUF k { s with IBUF := m } = bufRead .IBUF k s) →
        exec i { s with IBUF := m } = .next { t with IBUF := m })
    ∧ ((i = .frameSerialize → ∀ k, k < s.PKT_PLEN.toNat → bufRead .PBUF k { s with PBUF := m } = bufRead .PBUF k s) →
        ∃ u, exec i { s with PBUF := m } = .next u ∧ u = { t with PBUF := u.PBUF })
    ∧ ∃ u, exec i { s with OBUF := m } = .next u ∧ u = { t with OBUF := u.OBUF }

/-- R30: what commands write of the buffers: FRAME_PARSE PBUF below the new PKT_PLEN, FRAME_SERIALIZE OBUF below the
new OUT_LEN, nothing else, and IBUF never. -/
def Obligations.CommandsWriteBuffersBelowTheirLengths : Prop :=
  ∀ (i : Instr) (s t : State), exec i s = .next t →
    (∀ k, bufRead .IBUF k t = bufRead .IBUF k s)
    ∧ (∀ k, (i ≠ .frameParse ∨ t.PKT_PLEN.toNat ≤ k) → bufRead .PBUF k t = bufRead .PBUF k s)
    ∧ ∀ k, (i ≠ .frameSerialize ∨ t.OUT_LEN.toNat ≤ k) → bufRead .OBUF k t = bufRead .OBUF k s

/-! ### Host accesses -/

/-- R108, R43: the effect of a host write to each register; at any other offset the write is refused. -/
def Obligations.RegisterWriteEffects : Prop :=
  Stated.WriteEffect 0x010 (fun v s => { s with CTRL := { STRICT := decide (v.toNat % 2 = 1) } })
  ∧ Stated.WriteEffect 0x020 (fun v s => { s with FLG_IN := v })
  ∧ Stated.WriteEffect 0x030 (fun v s => { s with ADDR_IN := v })
  ∧ Stated.WriteEffect 0x068 (fun v s => { s with PKT_REQ := v })
  ∧ Stated.WriteEffect 0x070 (fun v s => { s with PKT_RSP := v })
  ∧ Stated.WriteEffect 0x078 (fun v s => { s with PKT_DWS := v })
  ∧ Stated.WriteEffect 0x080 (fun v s => { s with PKT_DWE := v })
  ∧ Stated.WriteEffect 0x088 (fun v s => { s with PKT_PLEN := v })
  ∧ Stated.WriteEffect 0x098 (fun v s => { s with IN_LEN := v })
  ∧ Stated.WriteEffect 0x058 (fun v s =>
      { s with PKT_ID := v, PKT_PRESENT := { ID := true, FLAGS := s.PKT_PRESENT.FLAGS } })
  ∧ Stated.WriteEffect 0x060 (fun v s =>
      { s with PKT_FLAGS := BitVec.ofNat 8 v.toNat, PKT_PRESENT := { ID := s.PKT_PRESENT.ID, FLAGS := true } })
  ∧ (∀ offset ∈ [0x008, 0x018, 0x028, 0x038, 0x040, 0x048, 0x050, 0x090, 0x0A0, 0x0A8],
      Stated.WriteEffect offset (fun _ s => s))
  ∧ (∀ (s : State) (v : Word64) (rest : List Input), s.inputs = .access (.write 0x000 8 v) :: rest →
      step s = exec (decode v) { s with inputs := rest })
  ∧ ∀ (s : State) (offset : Nat) (v : Word64) (rest : List Input), ¬ (offset ≤ 0x0A8 ∧ offset % 8 = 0) →
      s.inputs = .access (.write offset 8 v) :: rest → ∃ r, step s = .refused r

/-- R109, R43, and the layouts of R24, R29, R34 to R37: the value a host read of each register returns; the read
changes nothing of the block; at any other offset it is refused. -/
def Obligations.RegisterReadValues : Prop :=
  Stated.ReadValue 0x000 (fun _ => 0)
  ∧ Stated.ReadValue 0x008 (fun s => s.STATUS.DONE.toNat + 2 * s.STATUS.ERR.toNat + 4 * s.STATUS.ERR_STICKY.toNat
      + 16 * s.STATUS.ERR_CODE.toNat + 256 * s.STATUS.LAST_OP.toNat)
  ∧ Stated.ReadValue 0x010 (fun s => s.CTRL.STRICT.toNat)
  ∧ Stated.ReadValue 0x018 (fun _ => 2 ^ 40 + 256 * Config.FRAME_MAX + 28)
  ∧ Stated.ReadValue 0x020 (fun s => s.FLG_IN.toNat)
  ∧ Stated.ReadValue 0x028 (fun s => s.FLG_OUT.toNat)
  ∧ Stated.ReadValue 0x030 (fun s => s.ADDR_IN.toNat)
  ∧ Stated.ReadValue 0x038 (fun s => s.ADDR_SVC.toNat)
  ∧ Stated.ReadValue 0x040 (fun s => s.ADDR_CMP.toNat)
  ∧ Stated.ReadValue 0x048 (fun s => s.ADDR_RES.toNat)
  ∧ Stated.ReadValue 0x050 (fun s => s.ADDR_TGT.TGT_ID.toNat + 2 ^ 16 * Stated.kindCode s.ADDR_TGT.TGT_KIND)
  ∧ Stated.ReadValue 0x058 (fun s => s.PKT_ID.toNat)
  ∧ Stated.ReadValue 0x060 (fun s => s.PKT_FLAGS.toNat)
  ∧ Stated.ReadValue 0x068 (fun s => s.PKT_REQ.toNat)
  ∧ Stated.ReadValue 0x070 (fun s => s.PKT_RSP.toNat)
  ∧ Stated.ReadValue 0x078 (fun s => s.PKT_DWS.toNat)
  ∧ Stated.ReadValue 0x080 (fun s => s.PKT_DWE.toNat)
  ∧ Stated.ReadValue 0x088 (fun s => s.PKT_PLEN.toNat)
  ∧ Stated.ReadValue 0x090 (fun s => s.PKT_PRESENT.ID.toNat + 2 * s.PKT_PRESENT.FLAGS.toNat)
  ∧ Stated.ReadValue 0x098 (fun s => s.IN_LEN.toNat)
  ∧ Stated.ReadValue 0x0A0 (fun s => s.OUT_LEN.toNat)
  ∧ Stated.ReadValue 0x0A8 (fun _ => 0)
  ∧ ∀ (s : State) (offset : Nat) (rest : List Input), ¬ (offset ≤ 0x0A8 ∧ offset % 8 = 0) →
      s.inputs = .access (.read offset 8) :: rest → ∃ r, step s = .refused r

/-- R110, R44: a host write of a byte, in a block of any admissible capacity; OBUF ignores it, and above the buffer's
size it is refused. -/
def Obligations.BufferByteWrites : Prop :=
  ∀ (frameMax : Nat) (s : State) (k : Nat) (b : Byte), 28 ≤ frameMax → frameMax ≤ 2 ^ 24 →
    (k < frameMax → ∃ t, hostAccess frameMax (.write (0x01000000 + k) 1 (b.setWidth 64)) s = .next t
      ∧ t = { s with IBUF := t.IBUF } ∧ bufRead .IBUF k t = b
      ∧ ∀ j, j ≠ k → bufRead .IBUF j t = bufRead .IBUF j s)
    ∧ (k < frameMax → hostAccess frameMax (.write (0x02000000 + k) 1 (b.setWidth 64)) s = .next s)
    ∧ (k < frameMax - 28 → ∃ t, hostAccess frameMax (.write (0x03000000 + k) 1 (b.setWidth 64)) s = .next t
      ∧ t = { s with PBUF := t.PBUF } ∧ bufRead .PBUF k t = b
      ∧ ∀ j, j ≠ k → bufRead .PBUF j t = bufRead .PBUF j s)
    ∧ (frameMax ≤ k → k < 2 ^ 24 →
      (∃ r, hostAccess frameMax (.write (0x01000000 + k) 1 (b.setWidth 64)) s = .refused r)
      ∧ ∃ r, hostAccess frameMax (.write (0x02000000 + k) 1 (b.setWidth 64)) s = .refused r)
    ∧ (frameMax - 28 ≤ k → k < 2 ^ 24 →
      ∃ r, hostAccess frameMax (.write (0x03000000 + k) 1 (b.setWidth 64)) s = .refused r)

/-- R111, R44: a host read of a byte of any buffer returns it and changes nothing of the block. -/
def Obligations.BufferByteReads : Prop :=
  ∀ (frameMax : Nat) (s : State) (k : Nat), 28 ≤ frameMax → frameMax ≤ 2 ^ 24 →
    (k < frameMax → hostAccess frameMax (.read (0x01000000 + k) 1) s
      = .next { s with responses := s.responses ++ [(bufRead .IBUF k s).setWidth 64] })
    ∧ (k < frameMax → hostAccess frameMax (.read (0x02000000 + k) 1) s
      = .next { s with responses := s.responses ++ [(bufRead .OBUF k s).setWidth 64] })
    ∧ (k < frameMax - 28 → hostAccess frameMax (.read (0x03000000 + k) 1) s
      = .next { s with responses := s.responses ++ [(bufRead .PBUF k s).setWidth 64] })

/-- R111, R45, R49, R118: an access is refused exactly when it is not admitted; every admitted one completes. -/
def Obligations.RefusedExactlyWhenNotAdmitted : Prop :=
  ∀ (frameMax : Nat) (a : Access) (s : State), 28 ≤ frameMax → frameMax ≤ 2 ^ 24 →
    ((∃ r, hostAccess frameMax a s = .refused r) ↔ ¬ AccessAdmitted frameMax a)
    ∧ (AccessAdmitted frameMax a → ∃ t, hostAccess frameMax a s = .next t)

/-- R52: a read that follows a write to the same place returns what was written: the registers that store all 64 bits,
through two steps in the order the host issues them, and the buffer bytes, in a block of any admissible capacity. -/
def Obligations.ReadReturnsTheLatestWrite : Prop :=
  (∀ (s : State) (offset : Nat) (v : Word64) (rest : List Input),
    offset ∈ [0x020, 0x030, 0x058, 0x068, 0x070, 0x078, 0x080, 0x088, 0x098] →
    s.inputs = .access (.write offset 8 v) :: .access (.read offset 8) :: rest →
    ∃ t u, step s = .next t ∧ step t = .next u ∧ u.inputs = rest ∧ u.responses = s.responses ++ [v])
  ∧ ∀ (frameMax : Nat) (s : State) (k : Nat) (b : Byte), 28 ≤ frameMax → frameMax ≤ 2 ^ 24 →
    (k < frameMax → ∃ t, hostAccess frameMax (.write (0x01000000 + k) 1 (b.setWidth 64)) s = .next t
      ∧ hostAccess frameMax (.read (0x01000000 + k) 1) t
        = .next { t with responses := s.responses ++ [b.setWidth 64] })
    ∧ (k < frameMax - 28 → ∃ t, hostAccess frameMax (.write (0x03000000 + k) 1 (b.setWidth 64)) s = .next t
      ∧ hostAccess frameMax (.read (0x03000000 + k) 1) t
        = .next { t with responses := s.responses ++ [b.setWidth 64] })

/-! ### Who writes what -/

/-- R98: no step changes a packet register or PKT_PRESENT but a FRAME_PARSE, a CLEAR, a reset pulse and a host write of
a packet register. -/
def Obligations.WhoChangesThePacketRegisters : Prop :=
  ∀ s t : State, step s = .next t →
    Stated.samePacket s t
    ∨ (∃ rest, s.inputs = .reset :: rest)
    ∨ (∃ v rest, (v = 3 ∨ v = 6) ∧ s.inputs = .access (.write 0x000 8 v) :: rest)
    ∨ (∃ offset v rest, offset ∈ [0x058, 0x060, 0x068, 0x070, 0x078, 0x080, 0x088]
        ∧ s.inputs = .access (.write offset 8 v) :: rest)

/-- R19, R21 to R24, R32, R34: no host write changes a result register or STATUS; each is changed only by a reset
pulse, a CLEAR and the commands its rule names. -/
def Obligations.WhoChangesTheResultRegisters : Prop :=
  ∀ s t : State, step s = .next t →
    (∃ rest, s.inputs = .reset :: rest)
    ∨ (∃ rest, s.inputs = .access (.write 0x000 8 6) :: rest)
    ∨ ((t.STATUS = s.STATUS ∨ ∃ v rest, s.inputs = .access (.write 0x000 8 v) :: rest)
      ∧ (t.FLG_OUT = s.FLG_OUT ∨ ∃ v rest, (v = 1 ∨ v = 2) ∧ s.inputs = .access (.write 0x000 8 v) :: rest)
      ∧ ((t.ADDR_SVC = s.ADDR_SVC ∧ t.ADDR_CMP = s.ADDR_CMP ∧ t.ADDR_RES = s.ADDR_RES ∧ t.ADDR_TGT = s.ADDR_TGT)
          ∨ ∃ rest, s.inputs = .access (.write 0x000 8 5) :: rest)
      ∧ (t.OUT_LEN = s.OUT_LEN ∨ ∃ rest, s.inputs = .access (.write 0x000 8 4) :: rest))

/-! ### Reset and the invariant -/

/-- R130: the register values right after reset, the values the host reads of STATUS, CMD and CAP, and that no buffer
byte has a written value. -/
def Obligations.ResetValues : Prop :=
  Stated.registersAtReset State.reset ∧ statusWord State.reset.STATUS = 0
  ∧ regRead .CMD State.reset = 0
  ∧ (∀ B, State.reset.mem B = [])
  ∧ (regRead .CAP State.reset).toNat = 2 ^ 40 + 256 * Config.FRAME_MAX + 28

/-- R129: a reset pulse sets every register to its reset value; each buffer byte then reads as its unspecified
contents, whichever draw the reset takes (the draw is the model's free value, log entry 5). -/
def Obligations.ResetPulseSetsEveryRegister : Prop :=
  ∀ (s : State) (rest : List Input), s.inputs = .reset :: rest →
    ∃ t, step s = .next t ∧ Stated.registersAtReset t ∧ statusWord t.STATUS = 0
      ∧ t.inputs = rest ∧ t.responses = s.responses
      ∧ (∀ k, bufRead .IBUF k t = Config.resetByte t.epoch (0x01000000 + k))
      ∧ (∀ k, bufRead .OBUF k t = Config.resetByte t.epoch (0x02000000 + k))
      ∧ ∀ k, bufRead .PBUF k t = Config.resetByte t.epoch (0x03000000 + k)

/-- R132: CLEAR gives the registers that a reset gives, except STATUS, and leaves the buffers. -/
def Obligations.ClearIsResetExceptStatusAndBuffers : Prop :=
  ∀ s : State, ∃ t, exec .clear s = .next t
    ∧ t = { resetBlock s with
        STATUS := { DONE := true, ERR := false, ERR_STICKY := false, ERR_CODE := 0, LAST_OP := 0x6 }
        IBUF := s.IBUF, OBUF := s.OBUF, PBUF := s.PBUF, epoch := s.epoch }
    ∧ ∀ B k, bufRead B k t = bufRead B k s

/-- The invariant holds at reset. -/
def Obligations.ResetMeetsTheInvariant : Prop := Inv State.reset

/-- Every step keeps the invariant, from every state that meets it. -/
def Obligations.EveryStepKeepsTheInvariant : Prop := ∀ s t : State, Inv s → step s = .next t → Inv t
end

