-- ==== Sys2Proof/Laws/Memory.lean ====
section
/-! SUPPORT. What the memory operations do: a read after a write, and that every operation keeps the canonical form. -/

namespace Sys2Proof.Laws

open Sys2Proof.Machine

theorem frameMax_ge : 28 ≤ Config.FRAME_MAX := Nat.le_add_left _ _

theorem frameMax_le : Config.FRAME_MAX ≤ 2 ^ 24 := by
  have h := Config.frameMaxAbove28.isLt
  simp only [Config.FRAME_MAX]
  omega

@[simp] theorem lookup_nil (k : Nat) : Memory.lookup k [] = none := rfl

@[simp] theorem lookup_cons (k : Nat) (c : Host.Cell) (m : Memory) :
    Memory.lookup k (c :: m) = if c.1 = k then some c.2 else Memory.lookup k m := rfl

/-- A read after a write gives the value written, and a write leaves every other index alone. -/
@[simp] theorem lookup_write (j k : Nat) (b : Byte) (m : Memory) :
    Memory.lookup j (Memory.write k b m) = if j = k then some b else Memory.lookup j m := by
  induction m with
  | nil => simp [Memory.write, eq_comm]
  | cons c m ih =>
    obtain ⟨a, d⟩ := c
    simp only [Memory.write]
    by_cases h1 : k < a
    · by_cases hj : j = k
      · simp [h1, hj]
      · simp [h1, hj, Ne.symm hj]
    · by_cases h2 : a = k
      · by_cases hj : j = k
        · simp [h2, hj]
        · simp [h2, hj, Ne.symm hj]
      · by_cases hj : j = k
        · subst hj; simp [h1, h2, ih]
        · simp [h1, h2, hj, ih]

theorem lookup_writeBytes (j k : Nat) (bs : List Byte) (m : Memory) :
    Memory.lookup j (Memory.writeBytes k bs m) =
      if k ≤ j ∧ j < k + bs.length then bs[j - k]? else Memory.lookup j m := by
  induction bs generalizing k m with
  | nil =>
    have : ¬ (k ≤ j ∧ j < k) := by omega
    simp [Memory.writeBytes, this]
  | cons b bs ih =>
    simp only [Memory.writeBytes, ih, lookup_write, List.length_cons]
    by_cases h : j = k
    · subst h
      have h1 : ¬ (j + 1 ≤ j ∧ j < j + 1 + bs.length) := by omega
      have h2 : j ≤ j ∧ j < j + (bs.length + 1) := by omega
      rw [if_neg h1, if_pos rfl, if_pos h2, Nat.sub_self, List.getElem?_cons_zero]
    · rw [if_neg h]
      by_cases h1 : k + 1 ≤ j ∧ j < k + 1 + bs.length
      · have h2 : k ≤ j ∧ j < k + (bs.length + 1) := by omega
        have h3 : j - k = (j - (k + 1)) + 1 := by omega
        rw [if_pos h1, if_pos h2, h3, List.getElem?_cons_succ]
      · have h2 : ¬ (k ≤ j ∧ j < k + (bs.length + 1)) := by omega
        rw [if_neg h1, if_neg h2]

/-- A write lists nothing but the byte written and what was listed before. -/
theorem mem_write {c : Host.Cell} {k : Nat} {b : Byte} {m : Memory} (h : c ∈ Memory.write k b m) :
    c = (k, b) ∨ c ∈ m := by
  induction m with
  | nil => simpa [Memory.write] using h
  | cons d m ih =>
    obtain ⟨a, d⟩ := d
    simp only [Memory.write] at h
    split_ifs at h with h1 h2
    · simpa using h
    · rcases List.mem_cons.1 h with h | h
      · exact .inl h
      · exact .inr (List.mem_cons_of_mem _ h)
    · rcases List.mem_cons.1 h with h | h
      · exact .inr (h ▸ List.mem_cons_self)
      · exact (ih h).imp_right (List.mem_cons_of_mem _)

theorem mem_writeBytes {c : Host.Cell} {k : Nat} {bs : List Byte} {m : Memory} (h : c ∈ Memory.writeBytes k bs m) :
    c.1 < k + bs.length ∨ c ∈ m := by
  induction bs generalizing k m with
  | nil => exact .inr h
  | cons b bs ih =>
    simp only [List.length_cons]
    rcases ih h with h | h
    · exact .inl (by omega)
    · rcases mem_write h with h | h
      · subst h; exact .inl (by simp)
      · exact .inr h

theorem wf_write {m : Memory} (k : Nat) (b : Byte) (h : Memory.wf m) : Memory.wf (Memory.write k b m) := by
  induction m with
  | nil => exact List.pairwise_singleton _ _
  | cons c m ih =>
    obtain ⟨a, d⟩ := c
    obtain ⟨hc, hm⟩ := List.pairwise_cons.1 h
    simp only [Memory.write]
    split_ifs with h1 h2
    · refine List.pairwise_cons.2 ⟨fun c hcm => ?_, h⟩
      rcases List.mem_cons.1 hcm with rfl | hcm
      · exact h1
      · exact lt_trans h1 (hc c hcm)
    · exact List.pairwise_cons.2 ⟨fun c hcm => h2 ▸ hc c hcm, hm⟩
    · refine List.pairwise_cons.2 ⟨fun c hcm => ?_, ih hm⟩
      rcases mem_write hcm with rfl | hcm
      · exact lt_of_le_of_ne (Nat.le_of_not_lt h1) h2
      · exact hc c hcm

theorem wf_writeBytes {m : Memory} (k : Nat) (bs : List Byte) (h : Memory.wf m) :
    Memory.wf (Memory.writeBytes k bs m) := by
  induction bs generalizing k m with
  | nil => exact h
  | cons b bs ih => exact ih (k + 1) (wf_write k b h)

theorem wf_setMem {s : State} {B C : Buffer} {m : Memory} (hm : Memory.wf m) (h : Memory.wf (s.mem C)) :
    Memory.wf ((s.setMem B m).mem C) := by
  cases B <;> cases C <;> assumption

theorem wf_bufWrite {s : State} (B C : Buffer) (k : Nat) (b : Byte) (h : ∀ D, Memory.wf (s.mem D)) :
    Memory.wf ((bufWrite B k b s).mem C) := wf_setMem (wf_write k b (h B)) (h C)

theorem wf_bufWriteBytes {s : State} (B C : Buffer) (k : Nat) (bs : List Byte) (h : ∀ D, Memory.wf (s.mem D)) :
    Memory.wf ((bufWriteBytes B k bs s).mem C) := wf_setMem (wf_writeBytes k bs (h B)) (h C)

/-- The reset memory has the canonical form. -/
theorem wf_reset (B : Buffer) : Memory.wf (State.reset.mem B) := by cases B <;> exact List.Pairwise.nil

end Sys2Proof.Laws
end

