-- ==== Sys2Proof/Laws/State.lean ====
section
/-! SUPPORT. The small lemmas of the state's named updates: one per field per update (each true by rfl), so that no
later proof unfolds a record update. -/

namespace Sys2Proof.Laws

open Sys2Proof.Machine

/-! ### complete -/

@[simp] theorem complete_FLG_IN (op : BitVec 4) (e : Option ErrorCause) (s : State) : (complete op e s).FLG_IN = s.FLG_IN := rfl
@[simp] theorem complete_FLG_OUT (op : BitVec 4) (e : Option ErrorCause) (s : State) : (complete op e s).FLG_OUT = s.FLG_OUT := rfl
@[simp] theorem complete_ADDR_IN (op : BitVec 4) (e : Option ErrorCause) (s : State) : (complete op e s).ADDR_IN = s.ADDR_IN := rfl
@[simp] theorem complete_ADDR_SVC (op : BitVec 4) (e : Option ErrorCause) (s : State) : (complete op e s).ADDR_SVC = s.ADDR_SVC := rfl
@[simp] theorem complete_ADDR_CMP (op : BitVec 4) (e : Option ErrorCause) (s : State) : (complete op e s).ADDR_CMP = s.ADDR_CMP := rfl
@[simp] theorem complete_ADDR_RES (op : BitVec 4) (e : Option ErrorCause) (s : State) : (complete op e s).ADDR_RES = s.ADDR_RES := rfl
@[simp] theorem complete_ADDR_TGT (op : BitVec 4) (e : Option ErrorCause) (s : State) : (complete op e s).ADDR_TGT = s.ADDR_TGT := rfl
@[simp] theorem complete_PKT_ID (op : BitVec 4) (e : Option ErrorCause) (s : State) : (complete op e s).PKT_ID = s.PKT_ID := rfl
@[simp] theorem complete_PKT_FLAGS (op : BitVec 4) (e : Option ErrorCause) (s : State) : (complete op e s).PKT_FLAGS = s.PKT_FLAGS := rfl
@[simp] theorem complete_PKT_REQ (op : BitVec 4) (e : Option ErrorCause) (s : State) : (complete op e s).PKT_REQ = s.PKT_REQ := rfl
@[simp] theorem complete_PKT_RSP (op : BitVec 4) (e : Option ErrorCause) (s : State) : (complete op e s).PKT_RSP = s.PKT_RSP := rfl
@[simp] theorem complete_PKT_DWS (op : BitVec 4) (e : Option ErrorCause) (s : State) : (complete op e s).PKT_DWS = s.PKT_DWS := rfl
@[simp] theorem complete_PKT_DWE (op : BitVec 4) (e : Option ErrorCause) (s : State) : (complete op e s).PKT_DWE = s.PKT_DWE := rfl
@[simp] theorem complete_PKT_PLEN (op : BitVec 4) (e : Option ErrorCause) (s : State) : (complete op e s).PKT_PLEN = s.PKT_PLEN := rfl
@[simp] theorem complete_PKT_PRESENT (op : BitVec 4) (e : Option ErrorCause) (s : State) : (complete op e s).PKT_PRESENT = s.PKT_PRESENT := rfl
@[simp] theorem complete_IBUF (op : BitVec 4) (e : Option ErrorCause) (s : State) : (complete op e s).IBUF = s.IBUF := rfl
@[simp] theorem complete_OBUF (op : BitVec 4) (e : Option ErrorCause) (s : State) : (complete op e s).OBUF = s.OBUF := rfl
@[simp] theorem complete_PBUF (op : BitVec 4) (e : Option ErrorCause) (s : State) : (complete op e s).PBUF = s.PBUF := rfl
@[simp] theorem complete_IN_LEN (op : BitVec 4) (e : Option ErrorCause) (s : State) : (complete op e s).IN_LEN = s.IN_LEN := rfl
@[simp] theorem complete_OUT_LEN (op : BitVec 4) (e : Option ErrorCause) (s : State) : (complete op e s).OUT_LEN = s.OUT_LEN := rfl
@[simp] theorem complete_STATUS (op : BitVec 4) (e : Option ErrorCause) (s : State) : (complete op e s).STATUS = statusAfter op e s.STATUS := rfl
@[simp] theorem complete_CTRL (op : BitVec 4) (e : Option ErrorCause) (s : State) : (complete op e s).CTRL = s.CTRL := rfl
@[simp] theorem complete_inputs (op : BitVec 4) (e : Option ErrorCause) (s : State) : (complete op e s).inputs = s.inputs := rfl
@[simp] theorem complete_responses (op : BitVec 4) (e : Option ErrorCause) (s : State) : (complete op e s).responses = s.responses := rfl
@[simp] theorem complete_epoch (op : BitVec 4) (e : Option ErrorCause) (s : State) : (complete op e s).epoch = s.epoch := rfl

/-! ### setStatus -/

@[simp] theorem setStatus_FLG_IN (s : State) (st : Status) : (s.setStatus st).FLG_IN = s.FLG_IN := rfl
@[simp] theorem setStatus_FLG_OUT (s : State) (st : Status) : (s.setStatus st).FLG_OUT = s.FLG_OUT := rfl
@[simp] theorem setStatus_ADDR_IN (s : State) (st : Status) : (s.setStatus st).ADDR_IN = s.ADDR_IN := rfl
@[simp] theorem setStatus_ADDR_SVC (s : State) (st : Status) : (s.setStatus st).ADDR_SVC = s.ADDR_SVC := rfl
@[simp] theorem setStatus_ADDR_CMP (s : State) (st : Status) : (s.setStatus st).ADDR_CMP = s.ADDR_CMP := rfl
@[simp] theorem setStatus_ADDR_RES (s : State) (st : Status) : (s.setStatus st).ADDR_RES = s.ADDR_RES := rfl
@[simp] theorem setStatus_ADDR_TGT (s : State) (st : Status) : (s.setStatus st).ADDR_TGT = s.ADDR_TGT := rfl
@[simp] theorem setStatus_PKT_ID (s : State) (st : Status) : (s.setStatus st).PKT_ID = s.PKT_ID := rfl
@[simp] theorem setStatus_PKT_FLAGS (s : State) (st : Status) : (s.setStatus st).PKT_FLAGS = s.PKT_FLAGS := rfl
@[simp] theorem setStatus_PKT_REQ (s : State) (st : Status) : (s.setStatus st).PKT_REQ = s.PKT_REQ := rfl
@[simp] theorem setStatus_PKT_RSP (s : State) (st : Status) : (s.setStatus st).PKT_RSP = s.PKT_RSP := rfl
@[simp] theorem setStatus_PKT_DWS (s : State) (st : Status) : (s.setStatus st).PKT_DWS = s.PKT_DWS := rfl
@[simp] theorem setStatus_PKT_DWE (s : State) (st : Status) : (s.setStatus st).PKT_DWE = s.PKT_DWE := rfl
@[simp] theorem setStatus_PKT_PLEN (s : State) (st : Status) : (s.setStatus st).PKT_PLEN = s.PKT_PLEN := rfl
@[simp] theorem setStatus_PKT_PRESENT (s : State) (st : Status) : (s.setStatus st).PKT_PRESENT = s.PKT_PRESENT := rfl
@[simp] theorem setStatus_IBUF (s : State) (st : Status) : (s.setStatus st).IBUF = s.IBUF := rfl
@[simp] theorem setStatus_OBUF (s : State) (st : Status) : (s.setStatus st).OBUF = s.OBUF := rfl
@[simp] theorem setStatus_PBUF (s : State) (st : Status) : (s.setStatus st).PBUF = s.PBUF := rfl
@[simp] theorem setStatus_IN_LEN (s : State) (st : Status) : (s.setStatus st).IN_LEN = s.IN_LEN := rfl
@[simp] theorem setStatus_OUT_LEN (s : State) (st : Status) : (s.setStatus st).OUT_LEN = s.OUT_LEN := rfl
@[simp] theorem setStatus_STATUS (s : State) (st : Status) : (s.setStatus st).STATUS = st := rfl
@[simp] theorem setStatus_CTRL (s : State) (st : Status) : (s.setStatus st).CTRL = s.CTRL := rfl
@[simp] theorem setStatus_inputs (s : State) (st : Status) : (s.setStatus st).inputs = s.inputs := rfl
@[simp] theorem setStatus_responses (s : State) (st : Status) : (s.setStatus st).responses = s.responses := rfl
@[simp] theorem setStatus_epoch (s : State) (st : Status) : (s.setStatus st).epoch = s.epoch := rfl

/-! ### setMem -/

@[simp] theorem setMem_FLG_IN (s : State) (B : Buffer) (m : Memory) : (s.setMem B m).FLG_IN = s.FLG_IN := by cases B <;> rfl
@[simp] theorem setMem_FLG_OUT (s : State) (B : Buffer) (m : Memory) : (s.setMem B m).FLG_OUT = s.FLG_OUT := by cases B <;> rfl
@[simp] theorem setMem_ADDR_IN (s : State) (B : Buffer) (m : Memory) : (s.setMem B m).ADDR_IN = s.ADDR_IN := by cases B <;> rfl
@[simp] theorem setMem_ADDR_SVC (s : State) (B : Buffer) (m : Memory) : (s.setMem B m).ADDR_SVC = s.ADDR_SVC := by cases B <;> rfl
@[simp] theorem setMem_ADDR_CMP (s : State) (B : Buffer) (m : Memory) : (s.setMem B m).ADDR_CMP = s.ADDR_CMP := by cases B <;> rfl
@[simp] theorem setMem_ADDR_RES (s : State) (B : Buffer) (m : Memory) : (s.setMem B m).ADDR_RES = s.ADDR_RES := by cases B <;> rfl
@[simp] theorem setMem_ADDR_TGT (s : State) (B : Buffer) (m : Memory) : (s.setMem B m).ADDR_TGT = s.ADDR_TGT := by cases B <;> rfl
@[simp] theorem setMem_PKT_ID (s : State) (B : Buffer) (m : Memory) : (s.setMem B m).PKT_ID = s.PKT_ID := by cases B <;> rfl
@[simp] theorem setMem_PKT_FLAGS (s : State) (B : Buffer) (m : Memory) : (s.setMem B m).PKT_FLAGS = s.PKT_FLAGS := by cases B <;> rfl
@[simp] theorem setMem_PKT_REQ (s : State) (B : Buffer) (m : Memory) : (s.setMem B m).PKT_REQ = s.PKT_REQ := by cases B <;> rfl
@[simp] theorem setMem_PKT_RSP (s : State) (B : Buffer) (m : Memory) : (s.setMem B m).PKT_RSP = s.PKT_RSP := by cases B <;> rfl
@[simp] theorem setMem_PKT_DWS (s : State) (B : Buffer) (m : Memory) : (s.setMem B m).PKT_DWS = s.PKT_DWS := by cases B <;> rfl
@[simp] theorem setMem_PKT_DWE (s : State) (B : Buffer) (m : Memory) : (s.setMem B m).PKT_DWE = s.PKT_DWE := by cases B <;> rfl
@[simp] theorem setMem_PKT_PLEN (s : State) (B : Buffer) (m : Memory) : (s.setMem B m).PKT_PLEN = s.PKT_PLEN := by cases B <;> rfl
@[simp] theorem setMem_PKT_PRESENT (s : State) (B : Buffer) (m : Memory) : (s.setMem B m).PKT_PRESENT = s.PKT_PRESENT := by cases B <;> rfl
@[simp] theorem setMem_IBUF_IBUF (s : State) (m : Memory) : (s.setMem .IBUF m).IBUF = m := rfl
@[simp] theorem setMem_OBUF_IBUF (s : State) (m : Memory) : (s.setMem .OBUF m).IBUF = s.IBUF := rfl
@[simp] theorem setMem_PBUF_IBUF (s : State) (m : Memory) : (s.setMem .PBUF m).IBUF = s.IBUF := rfl
@[simp] theorem setMem_IBUF_OBUF (s : State) (m : Memory) : (s.setMem .IBUF m).OBUF = s.OBUF := rfl
@[simp] theorem setMem_OBUF_OBUF (s : State) (m : Memory) : (s.setMem .OBUF m).OBUF = m := rfl
@[simp] theorem setMem_PBUF_OBUF (s : State) (m : Memory) : (s.setMem .PBUF m).OBUF = s.OBUF := rfl
@[simp] theorem setMem_IBUF_PBUF (s : State) (m : Memory) : (s.setMem .IBUF m).PBUF = s.PBUF := rfl
@[simp] theorem setMem_OBUF_PBUF (s : State) (m : Memory) : (s.setMem .OBUF m).PBUF = s.PBUF := rfl
@[simp] theorem setMem_PBUF_PBUF (s : State) (m : Memory) : (s.setMem .PBUF m).PBUF = m := rfl
@[simp] theorem setMem_IN_LEN (s : State) (B : Buffer) (m : Memory) : (s.setMem B m).IN_LEN = s.IN_LEN := by cases B <;> rfl
@[simp] theorem setMem_OUT_LEN (s : State) (B : Buffer) (m : Memory) : (s.setMem B m).OUT_LEN = s.OUT_LEN := by cases B <;> rfl
@[simp] theorem setMem_STATUS (s : State) (B : Buffer) (m : Memory) : (s.setMem B m).STATUS = s.STATUS := by cases B <;> rfl
@[simp] theorem setMem_CTRL (s : State) (B : Buffer) (m : Memory) : (s.setMem B m).CTRL = s.CTRL := by cases B <;> rfl
@[simp] theorem setMem_inputs (s : State) (B : Buffer) (m : Memory) : (s.setMem B m).inputs = s.inputs := by cases B <;> rfl
@[simp] theorem setMem_responses (s : State) (B : Buffer) (m : Memory) : (s.setMem B m).responses = s.responses := by cases B <;> rfl
@[simp] theorem setMem_epoch (s : State) (B : Buffer) (m : Memory) : (s.setMem B m).epoch = s.epoch := by cases B <;> rfl

@[simp] theorem mem_IBUF (s : State) : s.mem .IBUF = s.IBUF := rfl
@[simp] theorem mem_OBUF (s : State) : s.mem .OBUF = s.OBUF := rfl
@[simp] theorem mem_PBUF (s : State) : s.mem .PBUF = s.PBUF := rfl

@[simp] theorem mem_setMem (s : State) (B C : Buffer) (m : Memory) :
    (s.setMem B m).mem C = if C = B then m else s.mem C := by
  cases B <;> cases C <;> rfl

/-! ### bufWrite -/

@[simp] theorem bufWrite_FLG_IN (B : Buffer) (k : Nat) (b : Byte) (s : State) : (bufWrite B k b s).FLG_IN = s.FLG_IN := by cases B <;> rfl
@[simp] theorem bufWrite_FLG_OUT (B : Buffer) (k : Nat) (b : Byte) (s : State) : (bufWrite B k b s).FLG_OUT = s.FLG_OUT := by cases B <;> rfl
@[simp] theorem bufWrite_ADDR_IN (B : Buffer) (k : Nat) (b : Byte) (s : State) : (bufWrite B k b s).ADDR_IN = s.ADDR_IN := by cases B <;> rfl
@[simp] theorem bufWrite_ADDR_SVC (B : Buffer) (k : Nat) (b : Byte) (s : State) : (bufWrite B k b s).ADDR_SVC = s.ADDR_SVC := by cases B <;> rfl
@[simp] theorem bufWrite_ADDR_CMP (B : Buffer) (k : Nat) (b : Byte) (s : State) : (bufWrite B k b s).ADDR_CMP = s.ADDR_CMP := by cases B <;> rfl
@[simp] theorem bufWrite_ADDR_RES (B : Buffer) (k : Nat) (b : Byte) (s : State) : (bufWrite B k b s).ADDR_RES = s.ADDR_RES := by cases B <;> rfl
@[simp] theorem bufWrite_ADDR_TGT (B : Buffer) (k : Nat) (b : Byte) (s : State) : (bufWrite B k b s).ADDR_TGT = s.ADDR_TGT := by cases B <;> rfl
@[simp] theorem bufWrite_PKT_ID (B : Buffer) (k : Nat) (b : Byte) (s : State) : (bufWrite B k b s).PKT_ID = s.PKT_ID := by cases B <;> rfl
@[simp] theorem bufWrite_PKT_FLAGS (B : Buffer) (k : Nat) (b : Byte) (s : State) : (bufWrite B k b s).PKT_FLAGS = s.PKT_FLAGS := by cases B <;> rfl
@[simp] theorem bufWrite_PKT_REQ (B : Buffer) (k : Nat) (b : Byte) (s : State) : (bufWrite B k b s).PKT_REQ = s.PKT_REQ := by cases B <;> rfl
@[simp] theorem bufWrite_PKT_RSP (B : Buffer) (k : Nat) (b : Byte) (s : State) : (bufWrite B k b s).PKT_RSP = s.PKT_RSP := by cases B <;> rfl
@[simp] theorem bufWrite_PKT_DWS (B : Buffer) (k : Nat) (b : Byte) (s : State) : (bufWrite B k b s).PKT_DWS = s.PKT_DWS := by cases B <;> rfl
@[simp] theorem bufWrite_PKT_DWE (B : Buffer) (k : Nat) (b : Byte) (s : State) : (bufWrite B k b s).PKT_DWE = s.PKT_DWE := by cases B <;> rfl
@[simp] theorem bufWrite_PKT_PLEN (B : Buffer) (k : Nat) (b : Byte) (s : State) : (bufWrite B k b s).PKT_PLEN = s.PKT_PLEN := by cases B <;> rfl
@[simp] theorem bufWrite_PKT_PRESENT (B : Buffer) (k : Nat) (b : Byte) (s : State) : (bufWrite B k b s).PKT_PRESENT = s.PKT_PRESENT := by cases B <;> rfl
@[simp] theorem bufWrite_IBUF_IBUF (k : Nat) (b : Byte) (s : State) : (bufWrite .IBUF k b s).IBUF = Memory.write k b s.IBUF := rfl
@[simp] theorem bufWrite_OBUF_IBUF (k : Nat) (b : Byte) (s : State) : (bufWrite .OBUF k b s).IBUF = s.IBUF := rfl
@[simp] theorem bufWrite_PBUF_IBUF (k : Nat) (b : Byte) (s : State) : (bufWrite .PBUF k b s).IBUF = s.IBUF := rfl
@[simp] theorem bufWrite_IBUF_OBUF (k : Nat) (b : Byte) (s : State) : (bufWrite .IBUF k b s).OBUF = s.OBUF := rfl
@[simp] theorem bufWrite_OBUF_OBUF (k : Nat) (b : Byte) (s : State) : (bufWrite .OBUF k b s).OBUF = Memory.write k b s.OBUF := rfl
@[simp] theorem bufWrite_PBUF_OBUF (k : Nat) (b : Byte) (s : State) : (bufWrite .PBUF k b s).OBUF = s.OBUF := rfl
@[simp] theorem bufWrite_IBUF_PBUF (k : Nat) (b : Byte) (s : State) : (bufWrite .IBUF k b s).PBUF = s.PBUF := rfl
@[simp] theorem bufWrite_OBUF_PBUF (k : Nat) (b : Byte) (s : State) : (bufWrite .OBUF k b s).PBUF = s.PBUF := rfl
@[simp] theorem bufWrite_PBUF_PBUF (k : Nat) (b : Byte) (s : State) : (bufWrite .PBUF k b s).PBUF = Memory.write k b s.PBUF := rfl
@[simp] theorem bufWrite_IN_LEN (B : Buffer) (k : Nat) (b : Byte) (s : State) : (bufWrite B k b s).IN_LEN = s.IN_LEN := by cases B <;> rfl
@[simp] theorem bufWrite_OUT_LEN (B : Buffer) (k : Nat) (b : Byte) (s : State) : (bufWrite B k b s).OUT_LEN = s.OUT_LEN := by cases B <;> rfl
@[simp] theorem bufWrite_STATUS (B : Buffer) (k : Nat) (b : Byte) (s : State) : (bufWrite B k b s).STATUS = s.STATUS := by cases B <;> rfl
@[simp] theorem bufWrite_CTRL (B : Buffer) (k : Nat) (b : Byte) (s : State) : (bufWrite B k b s).CTRL = s.CTRL := by cases B <;> rfl
@[simp] theorem bufWrite_inputs (B : Buffer) (k : Nat) (b : Byte) (s : State) : (bufWrite B k b s).inputs = s.inputs := by cases B <;> rfl
@[simp] theorem bufWrite_responses (B : Buffer) (k : Nat) (b : Byte) (s : State) : (bufWrite B k b s).responses = s.responses := by cases B <;> rfl
@[simp] theorem bufWrite_epoch (B : Buffer) (k : Nat) (b : Byte) (s : State) : (bufWrite B k b s).epoch = s.epoch := by cases B <;> rfl

/-! ### bufWriteBytes -/

@[simp] theorem bufWriteBytes_FLG_IN (B : Buffer) (k : Nat) (bs : List Byte) (s : State) : (bufWriteBytes B k bs s).FLG_IN = s.FLG_IN := by cases B <;> rfl
@[simp] theorem bufWriteBytes_FLG_OUT (B : Buffer) (k : Nat) (bs : List Byte) (s : State) : (bufWriteBytes B k bs s).FLG_OUT = s.FLG_OUT := by cases B <;> rfl
@[simp] theorem bufWriteBytes_ADDR_IN (B : Buffer) (k : Nat) (bs : List Byte) (s : State) : (bufWriteBytes B k bs s).ADDR_IN = s.ADDR_IN := by cases B <;> rfl
@[simp] theorem bufWriteBytes_ADDR_SVC (B : Buffer) (k : Nat) (bs : List Byte) (s : State) : (bufWriteBytes B k bs s).ADDR_SVC = s.ADDR_SVC := by cases B <;> rfl
@[simp] theorem bufWriteBytes_ADDR_CMP (B : Buffer) (k : Nat) (bs : List Byte) (s : State) : (bufWriteBytes B k bs s).ADDR_CMP = s.ADDR_CMP := by cases B <;> rfl
@[simp] theorem bufWriteBytes_ADDR_RES (B : Buffer) (k : Nat) (bs : List Byte) (s : State) : (bufWriteBytes B k bs s).ADDR_RES = s.ADDR_RES := by cases B <;> rfl
@[simp] theorem bufWriteBytes_ADDR_TGT (B : Buffer) (k : Nat) (bs : List Byte) (s : State) : (bufWriteBytes B k bs s).ADDR_TGT = s.ADDR_TGT := by cases B <;> rfl
@[simp] theorem bufWriteBytes_PKT_ID (B : Buffer) (k : Nat) (bs : List Byte) (s : State) : (bufWriteBytes B k bs s).PKT_ID = s.PKT_ID := by cases B <;> rfl
@[simp] theorem bufWriteBytes_PKT_FLAGS (B : Buffer) (k : Nat) (bs : List Byte) (s : State) : (bufWriteBytes B k bs s).PKT_FLAGS = s.PKT_FLAGS := by cases B <;> rfl
@[simp] theorem bufWriteBytes_PKT_REQ (B : Buffer) (k : Nat) (bs : List Byte) (s : State) : (bufWriteBytes B k bs s).PKT_REQ = s.PKT_REQ := by cases B <;> rfl
@[simp] theorem bufWriteBytes_PKT_RSP (B : Buffer) (k : Nat) (bs : List Byte) (s : State) : (bufWriteBytes B k bs s).PKT_RSP = s.PKT_RSP := by cases B <;> rfl
@[simp] theorem bufWriteBytes_PKT_DWS (B : Buffer) (k : Nat) (bs : List Byte) (s : State) : (bufWriteBytes B k bs s).PKT_DWS = s.PKT_DWS := by cases B <;> rfl
@[simp] theorem bufWriteBytes_PKT_DWE (B : Buffer) (k : Nat) (bs : List Byte) (s : State) : (bufWriteBytes B k bs s).PKT_DWE = s.PKT_DWE := by cases B <;> rfl
@[simp] theorem bufWriteBytes_PKT_PLEN (B : Buffer) (k : Nat) (bs : List Byte) (s : State) : (bufWriteBytes B k bs s).PKT_PLEN = s.PKT_PLEN := by cases B <;> rfl
@[simp] theorem bufWriteBytes_PKT_PRESENT (B : Buffer) (k : Nat) (bs : List Byte) (s : State) : (bufWriteBytes B k bs s).PKT_PRESENT = s.PKT_PRESENT := by cases B <;> rfl
@[simp] theorem bufWriteBytes_IBUF_IBUF (k : Nat) (bs : List Byte) (s : State) : (bufWriteBytes .IBUF k bs s).IBUF = Memory.writeBytes k bs s.IBUF := rfl
@[simp] theorem bufWriteBytes_OBUF_IBUF (k : Nat) (bs : List Byte) (s : State) : (bufWriteBytes .OBUF k bs s).IBUF = s.IBUF := rfl
@[simp] theorem bufWriteBytes_PBUF_IBUF (k : Nat) (bs : List Byte) (s : State) : (bufWriteBytes .PBUF k bs s).IBUF = s.IBUF := rfl
@[simp] theorem bufWriteBytes_IBUF_OBUF (k : Nat) (bs : List Byte) (s : State) : (bufWriteBytes .IBUF k bs s).OBUF = s.OBUF := rfl
@[simp] theorem bufWriteBytes_OBUF_OBUF (k : Nat) (bs : List Byte) (s : State) : (bufWriteBytes .OBUF k bs s).OBUF = Memory.writeBytes k bs s.OBUF := rfl
@[simp] theorem bufWriteBytes_PBUF_OBUF (k : Nat) (bs : List Byte) (s : State) : (bufWriteBytes .PBUF k bs s).OBUF = s.OBUF := rfl
@[simp] theorem bufWriteBytes_IBUF_PBUF (k : Nat) (bs : List Byte) (s : State) : (bufWriteBytes .IBUF k bs s).PBUF = s.PBUF := rfl
@[simp] theorem bufWriteBytes_OBUF_PBUF (k : Nat) (bs : List Byte) (s : State) : (bufWriteBytes .OBUF k bs s).PBUF = s.PBUF := rfl
@[simp] theorem bufWriteBytes_PBUF_PBUF (k : Nat) (bs : List Byte) (s : State) : (bufWriteBytes .PBUF k bs s).PBUF = Memory.writeBytes k bs s.PBUF := rfl
@[simp] theorem bufWriteBytes_IN_LEN (B : Buffer) (k : Nat) (bs : List Byte) (s : State) : (bufWriteBytes B k bs s).IN_LEN = s.IN_LEN := by cases B <;> rfl
@[simp] theorem bufWriteBytes_OUT_LEN (B : Buffer) (k : Nat) (bs : List Byte) (s : State) : (bufWriteBytes B k bs s).OUT_LEN = s.OUT_LEN := by cases B <;> rfl
@[simp] theorem bufWriteBytes_STATUS (B : Buffer) (k : Nat) (bs : List Byte) (s : State) : (bufWriteBytes B k bs s).STATUS = s.STATUS := by cases B <;> rfl
@[simp] theorem bufWriteBytes_CTRL (B : Buffer) (k : Nat) (bs : List Byte) (s : State) : (bufWriteBytes B k bs s).CTRL = s.CTRL := by cases B <;> rfl
@[simp] theorem bufWriteBytes_inputs (B : Buffer) (k : Nat) (bs : List Byte) (s : State) : (bufWriteBytes B k bs s).inputs = s.inputs := by cases B <;> rfl
@[simp] theorem bufWriteBytes_responses (B : Buffer) (k : Nat) (bs : List Byte) (s : State) : (bufWriteBytes B k bs s).responses = s.responses := by cases B <;> rfl
@[simp] theorem bufWriteBytes_epoch (B : Buffer) (k : Nat) (bs : List Byte) (s : State) : (bufWriteBytes B k bs s).epoch = s.epoch := by cases B <;> rfl

/-! ### withInputs, respond -/

@[simp] theorem withInputs_FLG_IN (s : State) (rest : List Input) : (s.withInputs rest).FLG_IN = s.FLG_IN := rfl
@[simp] theorem withInputs_FLG_OUT (s : State) (rest : List Input) : (s.withInputs rest).FLG_OUT = s.FLG_OUT := rfl
@[simp] theorem withInputs_ADDR_IN (s : State) (rest : List Input) : (s.withInputs rest).ADDR_IN = s.ADDR_IN := rfl
@[simp] theorem withInputs_ADDR_SVC (s : State) (rest : List Input) : (s.withInputs rest).ADDR_SVC = s.ADDR_SVC := rfl
@[simp] theorem withInputs_ADDR_CMP (s : State) (rest : List Input) : (s.withInputs rest).ADDR_CMP = s.ADDR_CMP := rfl
@[simp] theorem withInputs_ADDR_RES (s : State) (rest : List Input) : (s.withInputs rest).ADDR_RES = s.ADDR_RES := rfl
@[simp] theorem withInputs_ADDR_TGT (s : State) (rest : List Input) : (s.withInputs rest).ADDR_TGT = s.ADDR_TGT := rfl
@[simp] theorem withInputs_PKT_ID (s : State) (rest : List Input) : (s.withInputs rest).PKT_ID = s.PKT_ID := rfl
@[simp] theorem withInputs_PKT_FLAGS (s : State) (rest : List Input) : (s.withInputs rest).PKT_FLAGS = s.PKT_FLAGS := rfl
@[simp] theorem withInputs_PKT_REQ (s : State) (rest : List Input) : (s.withInputs rest).PKT_REQ = s.PKT_REQ := rfl
@[simp] theorem withInputs_PKT_RSP (s : State) (rest : List Input) : (s.withInputs rest).PKT_RSP = s.PKT_RSP := rfl
@[simp] theorem withInputs_PKT_DWS (s : State) (rest : List Input) : (s.withInputs rest).PKT_DWS = s.PKT_DWS := rfl
@[simp] theorem withInputs_PKT_DWE (s : State) (rest : List Input) : (s.withInputs rest).PKT_DWE = s.PKT_DWE := rfl
@[simp] theorem withInputs_PKT_PLEN (s : State) (rest : List Input) : (s.withInputs rest).PKT_PLEN = s.PKT_PLEN := rfl
@[simp] theorem withInputs_PKT_PRESENT (s : State) (rest : List Input) : (s.withInputs rest).PKT_PRESENT = s.PKT_PRESENT := rfl
@[simp] theorem withInputs_IBUF (s : State) (rest : List Input) : (s.withInputs rest).IBUF = s.IBUF := rfl
@[simp] theorem withInputs_OBUF (s : State) (rest : List Input) : (s.withInputs rest).OBUF = s.OBUF := rfl
@[simp] theorem withInputs_PBUF (s : State) (rest : List Input) : (s.withInputs rest).PBUF = s.PBUF := rfl
@[simp] theorem withInputs_IN_LEN (s : State) (rest : List Input) : (s.withInputs rest).IN_LEN = s.IN_LEN := rfl
@[simp] theorem withInputs_OUT_LEN (s : State) (rest : List Input) : (s.withInputs rest).OUT_LEN = s.OUT_LEN := rfl
@[simp] theorem withInputs_STATUS (s : State) (rest : List Input) : (s.withInputs rest).STATUS = s.STATUS := rfl
@[simp] theorem withInputs_CTRL (s : State) (rest : List Input) : (s.withInputs rest).CTRL = s.CTRL := rfl
@[simp] theorem withInputs_inputs (s : State) (rest : List Input) : (s.withInputs rest).inputs = rest := rfl
@[simp] theorem withInputs_responses (s : State) (rest : List Input) : (s.withInputs rest).responses = s.responses := rfl
@[simp] theorem withInputs_epoch (s : State) (rest : List Input) : (s.withInputs rest).epoch = s.epoch := rfl
@[simp] theorem respond_FLG_IN (s : State) (v : Word64) : (s.respond v).FLG_IN = s.FLG_IN := rfl
@[simp] theorem respond_FLG_OUT (s : State) (v : Word64) : (s.respond v).FLG_OUT = s.FLG_OUT := rfl
@[simp] theorem respond_ADDR_IN (s : State) (v : Word64) : (s.respond v).ADDR_IN = s.ADDR_IN := rfl
@[simp] theorem respond_ADDR_SVC (s : State) (v : Word64) : (s.respond v).ADDR_SVC = s.ADDR_SVC := rfl
@[simp] theorem respond_ADDR_CMP (s : State) (v : Word64) : (s.respond v).ADDR_CMP = s.ADDR_CMP := rfl
@[simp] theorem respond_ADDR_RES (s : State) (v : Word64) : (s.respond v).ADDR_RES = s.ADDR_RES := rfl
@[simp] theorem respond_ADDR_TGT (s : State) (v : Word64) : (s.respond v).ADDR_TGT = s.ADDR_TGT := rfl
@[simp] theorem respond_PKT_ID (s : State) (v : Word64) : (s.respond v).PKT_ID = s.PKT_ID := rfl
@[simp] theorem respond_PKT_FLAGS (s : State) (v : Word64) : (s.respond v).PKT_FLAGS = s.PKT_FLAGS := rfl
@[simp] theorem respond_PKT_REQ (s : State) (v : Word64) : (s.respond v).PKT_REQ = s.PKT_REQ := rfl
@[simp] theorem respond_PKT_RSP (s : State) (v : Word64) : (s.respond v).PKT_RSP = s.PKT_RSP := rfl
@[simp] theorem respond_PKT_DWS (s : State) (v : Word64) : (s.respond v).PKT_DWS = s.PKT_DWS := rfl
@[simp] theorem respond_PKT_DWE (s : State) (v : Word64) : (s.respond v).PKT_DWE = s.PKT_DWE := rfl
@[simp] theorem respond_PKT_PLEN (s : State) (v : Word64) : (s.respond v).PKT_PLEN = s.PKT_PLEN := rfl
@[simp] theorem respond_PKT_PRESENT (s : State) (v : Word64) : (s.respond v).PKT_PRESENT = s.PKT_PRESENT := rfl
@[simp] theorem respond_IBUF (s : State) (v : Word64) : (s.respond v).IBUF = s.IBUF := rfl
@[simp] theorem respond_OBUF (s : State) (v : Word64) : (s.respond v).OBUF = s.OBUF := rfl
@[simp] theorem respond_PBUF (s : State) (v : Word64) : (s.respond v).PBUF = s.PBUF := rfl
@[simp] theorem respond_IN_LEN (s : State) (v : Word64) : (s.respond v).IN_LEN = s.IN_LEN := rfl
@[simp] theorem respond_OUT_LEN (s : State) (v : Word64) : (s.respond v).OUT_LEN = s.OUT_LEN := rfl
@[simp] theorem respond_STATUS (s : State) (v : Word64) : (s.respond v).STATUS = s.STATUS := rfl
@[simp] theorem respond_CTRL (s : State) (v : Word64) : (s.respond v).CTRL = s.CTRL := rfl
@[simp] theorem respond_inputs (s : State) (v : Word64) : (s.respond v).inputs = s.inputs := rfl
@[simp] theorem respond_responses (s : State) (v : Word64) : (s.respond v).responses = s.responses ++ [v] := rfl
@[simp] theorem respond_epoch (s : State) (v : Word64) : (s.respond v).epoch = s.epoch := rfl

/-! ### clearRegisters, resetBlock -/

@[simp] theorem clearRegisters_FLG_IN (s : State) : (clearRegisters s).FLG_IN = State.reset.FLG_IN := rfl
@[simp] theorem clearRegisters_FLG_OUT (s : State) : (clearRegisters s).FLG_OUT = State.reset.FLG_OUT := rfl
@[simp] theorem clearRegisters_ADDR_IN (s : State) : (clearRegisters s).ADDR_IN = State.reset.ADDR_IN := rfl
@[simp] theorem clearRegisters_ADDR_SVC (s : State) : (clearRegisters s).ADDR_SVC = State.reset.ADDR_SVC := rfl
@[simp] theorem clearRegisters_ADDR_CMP (s : State) : (clearRegisters s).ADDR_CMP = State.reset.ADDR_CMP := rfl
@[simp] theorem clearRegisters_ADDR_RES (s : State) : (clearRegisters s).ADDR_RES = State.reset.ADDR_RES := rfl
@[simp] theorem clearRegisters_ADDR_TGT (s : State) : (clearRegisters s).ADDR_TGT = State.reset.ADDR_TGT := rfl
@[simp] theorem clearRegisters_PKT_ID (s : State) : (clearRegisters s).PKT_ID = State.reset.PKT_ID := rfl
@[simp] theorem clearRegisters_PKT_FLAGS (s : State) : (clearRegisters s).PKT_FLAGS = State.reset.PKT_FLAGS := rfl
@[simp] theorem clearRegisters_PKT_REQ (s : State) : (clearRegisters s).PKT_REQ = State.reset.PKT_REQ := rfl
@[simp] theorem clearRegisters_PKT_RSP (s : State) : (clearRegisters s).PKT_RSP = State.reset.PKT_RSP := rfl
@[simp] theorem clearRegisters_PKT_DWS (s : State) : (clearRegisters s).PKT_DWS = State.reset.PKT_DWS := rfl
@[simp] theorem clearRegisters_PKT_DWE (s : State) : (clearRegisters s).PKT_DWE = State.reset.PKT_DWE := rfl
@[simp] theorem clearRegisters_PKT_PLEN (s : State) : (clearRegisters s).PKT_PLEN = State.reset.PKT_PLEN := rfl
@[simp] theorem clearRegisters_PKT_PRESENT (s : State) : (clearRegisters s).PKT_PRESENT = State.reset.PKT_PRESENT := rfl
@[simp] theorem clearRegisters_IBUF (s : State) : (clearRegisters s).IBUF = s.IBUF := rfl
@[simp] theorem clearRegisters_OBUF (s : State) : (clearRegisters s).OBUF = s.OBUF := rfl
@[simp] theorem clearRegisters_PBUF (s : State) : (clearRegisters s).PBUF = s.PBUF := rfl
@[simp] theorem clearRegisters_IN_LEN (s : State) : (clearRegisters s).IN_LEN = State.reset.IN_LEN := rfl
@[simp] theorem clearRegisters_OUT_LEN (s : State) : (clearRegisters s).OUT_LEN = State.reset.OUT_LEN := rfl
@[simp] theorem clearRegisters_STATUS (s : State) : (clearRegisters s).STATUS = s.STATUS := rfl
@[simp] theorem clearRegisters_CTRL (s : State) : (clearRegisters s).CTRL = State.reset.CTRL := rfl
@[simp] theorem clearRegisters_inputs (s : State) : (clearRegisters s).inputs = s.inputs := rfl
@[simp] theorem clearRegisters_responses (s : State) : (clearRegisters s).responses = s.responses := rfl
@[simp] theorem clearRegisters_epoch (s : State) : (clearRegisters s).epoch = s.epoch := rfl
@[simp] theorem resetBlock_FLG_IN (s : State) : (resetBlock s).FLG_IN = State.reset.FLG_IN := rfl
@[simp] theorem resetBlock_FLG_OUT (s : State) : (resetBlock s).FLG_OUT = State.reset.FLG_OUT := rfl
@[simp] theorem resetBlock_ADDR_IN (s : State) : (resetBlock s).ADDR_IN = State.reset.ADDR_IN := rfl
@[simp] theorem resetBlock_ADDR_SVC (s : State) : (resetBlock s).ADDR_SVC = State.reset.ADDR_SVC := rfl
@[simp] theorem resetBlock_ADDR_CMP (s : State) : (resetBlock s).ADDR_CMP = State.reset.ADDR_CMP := rfl
@[simp] theorem resetBlock_ADDR_RES (s : State) : (resetBlock s).ADDR_RES = State.reset.ADDR_RES := rfl
@[simp] theorem resetBlock_ADDR_TGT (s : State) : (resetBlock s).ADDR_TGT = State.reset.ADDR_TGT := rfl
@[simp] theorem resetBlock_PKT_ID (s : State) : (resetBlock s).PKT_ID = State.reset.PKT_ID := rfl
@[simp] theorem resetBlock_PKT_FLAGS (s : State) : (resetBlock s).PKT_FLAGS = State.reset.PKT_FLAGS := rfl
@[simp] theorem resetBlock_PKT_REQ (s : State) : (resetBlock s).PKT_REQ = State.reset.PKT_REQ := rfl
@[simp] theorem resetBlock_PKT_RSP (s : State) : (resetBlock s).PKT_RSP = State.reset.PKT_RSP := rfl
@[simp] theorem resetBlock_PKT_DWS (s : State) : (resetBlock s).PKT_DWS = State.reset.PKT_DWS := rfl
@[simp] theorem resetBlock_PKT_DWE (s : State) : (resetBlock s).PKT_DWE = State.reset.PKT_DWE := rfl
@[simp] theorem resetBlock_PKT_PLEN (s : State) : (resetBlock s).PKT_PLEN = State.reset.PKT_PLEN := rfl
@[simp] theorem resetBlock_PKT_PRESENT (s : State) : (resetBlock s).PKT_PRESENT = State.reset.PKT_PRESENT := rfl
@[simp] theorem resetBlock_IBUF (s : State) : (resetBlock s).IBUF = State.reset.IBUF := rfl
@[simp] theorem resetBlock_OBUF (s : State) : (resetBlock s).OBUF = State.reset.OBUF := rfl
@[simp] theorem resetBlock_PBUF (s : State) : (resetBlock s).PBUF = State.reset.PBUF := rfl
@[simp] theorem resetBlock_IN_LEN (s : State) : (resetBlock s).IN_LEN = State.reset.IN_LEN := rfl
@[simp] theorem resetBlock_OUT_LEN (s : State) : (resetBlock s).OUT_LEN = State.reset.OUT_LEN := rfl
@[simp] theorem resetBlock_STATUS (s : State) : (resetBlock s).STATUS = State.reset.STATUS := rfl
@[simp] theorem resetBlock_CTRL (s : State) : (resetBlock s).CTRL = State.reset.CTRL := rfl
@[simp] theorem resetBlock_inputs (s : State) : (resetBlock s).inputs = s.inputs := rfl
@[simp] theorem resetBlock_responses (s : State) : (resetBlock s).responses = s.responses := rfl
@[simp] theorem resetBlock_epoch (s : State) : (resetBlock s).epoch = s.epoch + 1 := rfl

/-! ### setFlagsResult -/

@[simp] theorem setFlagsResult_FLG_IN (s : State) (v : Word64) : (s.setFlagsResult v).FLG_IN = s.FLG_IN := rfl
@[simp] theorem setFlagsResult_FLG_OUT (s : State) (v : Word64) : (s.setFlagsResult v).FLG_OUT = v := rfl
@[simp] theorem setFlagsResult_ADDR_IN (s : State) (v : Word64) : (s.setFlagsResult v).ADDR_IN = s.ADDR_IN := rfl
@[simp] theorem setFlagsResult_ADDR_SVC (s : State) (v : Word64) : (s.setFlagsResult v).ADDR_SVC = s.ADDR_SVC := rfl
@[simp] theorem setFlagsResult_ADDR_CMP (s : State) (v : Word64) : (s.setFlagsResult v).ADDR_CMP = s.ADDR_CMP := rfl
@[simp] theorem setFlagsResult_ADDR_RES (s : State) (v : Word64) : (s.setFlagsResult v).ADDR_RES = s.ADDR_RES := rfl
@[simp] theorem setFlagsResult_ADDR_TGT (s : State) (v : Word64) : (s.setFlagsResult v).ADDR_TGT = s.ADDR_TGT := rfl
@[simp] theorem setFlagsResult_PKT_ID (s : State) (v : Word64) : (s.setFlagsResult v).PKT_ID = s.PKT_ID := rfl
@[simp] theorem setFlagsResult_PKT_FLAGS (s : State) (v : Word64) : (s.setFlagsResult v).PKT_FLAGS = s.PKT_FLAGS := rfl
@[simp] theorem setFlagsResult_PKT_REQ (s : State) (v : Word64) : (s.setFlagsResult v).PKT_REQ = s.PKT_REQ := rfl
@[simp] theorem setFlagsResult_PKT_RSP (s : State) (v : Word64) : (s.setFlagsResult v).PKT_RSP = s.PKT_RSP := rfl
@[simp] theorem setFlagsResult_PKT_DWS (s : State) (v : Word64) : (s.setFlagsResult v).PKT_DWS = s.PKT_DWS := rfl
@[simp] theorem setFlagsResult_PKT_DWE (s : State) (v : Word64) : (s.setFlagsResult v).PKT_DWE = s.PKT_DWE := rfl
@[simp] theorem setFlagsResult_PKT_PLEN (s : State) (v : Word64) : (s.setFlagsResult v).PKT_PLEN = s.PKT_PLEN := rfl
@[simp] theorem setFlagsResult_PKT_PRESENT (s : State) (v : Word64) : (s.setFlagsResult v).PKT_PRESENT = s.PKT_PRESENT := rfl
@[simp] theorem setFlagsResult_IBUF (s : State) (v : Word64) : (s.setFlagsResult v).IBUF = s.IBUF := rfl
@[simp] theorem setFlagsResult_OBUF (s : State) (v : Word64) : (s.setFlagsResult v).OBUF = s.OBUF := rfl
@[simp] theorem setFlagsResult_PBUF (s : State) (v : Word64) : (s.setFlagsResult v).PBUF = s.PBUF := rfl
@[simp] theorem setFlagsResult_IN_LEN (s : State) (v : Word64) : (s.setFlagsResult v).IN_LEN = s.IN_LEN := rfl
@[simp] theorem setFlagsResult_OUT_LEN (s : State) (v : Word64) : (s.setFlagsResult v).OUT_LEN = s.OUT_LEN := rfl
@[simp] theorem setFlagsResult_STATUS (s : State) (v : Word64) : (s.setFlagsResult v).STATUS = s.STATUS := rfl
@[simp] theorem setFlagsResult_CTRL (s : State) (v : Word64) : (s.setFlagsResult v).CTRL = s.CTRL := rfl
@[simp] theorem setFlagsResult_inputs (s : State) (v : Word64) : (s.setFlagsResult v).inputs = s.inputs := rfl
@[simp] theorem setFlagsResult_responses (s : State) (v : Word64) : (s.setFlagsResult v).responses = s.responses := rfl
@[simp] theorem setFlagsResult_epoch (s : State) (v : Word64) : (s.setFlagsResult v).epoch = s.epoch := rfl

/-! ### setAddressResult -/

@[simp] theorem setAddressResult_FLG_IN (s : State) (svc cmp res : BitVec 16) (target : Target) : (s.setAddressResult svc cmp res target).FLG_IN = s.FLG_IN := rfl
@[simp] theorem setAddressResult_FLG_OUT (s : State) (svc cmp res : BitVec 16) (target : Target) : (s.setAddressResult svc cmp res target).FLG_OUT = s.FLG_OUT := rfl
@[simp] theorem setAddressResult_ADDR_IN (s : State) (svc cmp res : BitVec 16) (target : Target) : (s.setAddressResult svc cmp res target).ADDR_IN = s.ADDR_IN := rfl
@[simp] theorem setAddressResult_ADDR_SVC (s : State) (svc cmp res : BitVec 16) (target : Target) : (s.setAddressResult svc cmp res target).ADDR_SVC = svc := rfl
@[simp] theorem setAddressResult_ADDR_CMP (s : State) (svc cmp res : BitVec 16) (target : Target) : (s.setAddressResult svc cmp res target).ADDR_CMP = cmp := rfl
@[simp] theorem setAddressResult_ADDR_RES (s : State) (svc cmp res : BitVec 16) (target : Target) : (s.setAddressResult svc cmp res target).ADDR_RES = res := rfl
@[simp] theorem setAddressResult_ADDR_TGT (s : State) (svc cmp res : BitVec 16) (target : Target) : (s.setAddressResult svc cmp res target).ADDR_TGT = target := rfl
@[simp] theorem setAddressResult_PKT_ID (s : State) (svc cmp res : BitVec 16) (target : Target) : (s.setAddressResult svc cmp res target).PKT_ID = s.PKT_ID := rfl
@[simp] theorem setAddressResult_PKT_FLAGS (s : State) (svc cmp res : BitVec 16) (target : Target) : (s.setAddressResult svc cmp res target).PKT_FLAGS = s.PKT_FLAGS := rfl
@[simp] theorem setAddressResult_PKT_REQ (s : State) (svc cmp res : BitVec 16) (target : Target) : (s.setAddressResult svc cmp res target).PKT_REQ = s.PKT_REQ := rfl
@[simp] theorem setAddressResult_PKT_RSP (s : State) (svc cmp res : BitVec 16) (target : Target) : (s.setAddressResult svc cmp res target).PKT_RSP = s.PKT_RSP := rfl
@[simp] theorem setAddressResult_PKT_DWS (s : State) (svc cmp res : BitVec 16) (target : Target) : (s.setAddressResult svc cmp res target).PKT_DWS = s.PKT_DWS := rfl
@[simp] theorem setAddressResult_PKT_DWE (s : State) (svc cmp res : BitVec 16) (target : Target) : (s.setAddressResult svc cmp res target).PKT_DWE = s.PKT_DWE := rfl
@[simp] theorem setAddressResult_PKT_PLEN (s : State) (svc cmp res : BitVec 16) (target : Target) : (s.setAddressResult svc cmp res target).PKT_PLEN = s.PKT_PLEN := rfl
@[simp] theorem setAddressResult_PKT_PRESENT (s : State) (svc cmp res : BitVec 16) (target : Target) : (s.setAddressResult svc cmp res target).PKT_PRESENT = s.PKT_PRESENT := rfl
@[simp] theorem setAddressResult_IBUF (s : State) (svc cmp res : BitVec 16) (target : Target) : (s.setAddressResult svc cmp res target).IBUF = s.IBUF := rfl
@[simp] theorem setAddressResult_OBUF (s : State) (svc cmp res : BitVec 16) (target : Target) : (s.setAddressResult svc cmp res target).OBUF = s.OBUF := rfl
@[simp] theorem setAddressResult_PBUF (s : State) (svc cmp res : BitVec 16) (target : Target) : (s.setAddressResult svc cmp res target).PBUF = s.PBUF := rfl
@[simp] theorem setAddressResult_IN_LEN (s : State) (svc cmp res : BitVec 16) (target : Target) : (s.setAddressResult svc cmp res target).IN_LEN = s.IN_LEN := rfl
@[simp] theorem setAddressResult_OUT_LEN (s : State) (svc cmp res : BitVec 16) (target : Target) : (s.setAddressResult svc cmp res target).OUT_LEN = s.OUT_LEN := rfl
@[simp] theorem setAddressResult_STATUS (s : State) (svc cmp res : BitVec 16) (target : Target) : (s.setAddressResult svc cmp res target).STATUS = s.STATUS := rfl
@[simp] theorem setAddressResult_CTRL (s : State) (svc cmp res : BitVec 16) (target : Target) : (s.setAddressResult svc cmp res target).CTRL = s.CTRL := rfl
@[simp] theorem setAddressResult_inputs (s : State) (svc cmp res : BitVec 16) (target : Target) : (s.setAddressResult svc cmp res target).inputs = s.inputs := rfl
@[simp] theorem setAddressResult_responses (s : State) (svc cmp res : BitVec 16) (target : Target) : (s.setAddressResult svc cmp res target).responses = s.responses := rfl
@[simp] theorem setAddressResult_epoch (s : State) (svc cmp res : BitVec 16) (target : Target) : (s.setAddressResult svc cmp res target).epoch = s.epoch := rfl

/-! ### setFrameLength -/

@[simp] theorem setFrameLength_FLG_IN (s : State) (v : Word64) : (s.setFrameLength v).FLG_IN = s.FLG_IN := rfl
@[simp] theorem setFrameLength_FLG_OUT (s : State) (v : Word64) : (s.setFrameLength v).FLG_OUT = s.FLG_OUT := rfl
@[simp] theorem setFrameLength_ADDR_IN (s : State) (v : Word64) : (s.setFrameLength v).ADDR_IN = s.ADDR_IN := rfl
@[simp] theorem setFrameLength_ADDR_SVC (s : State) (v : Word64) : (s.setFrameLength v).ADDR_SVC = s.ADDR_SVC := rfl
@[simp] theorem setFrameLength_ADDR_CMP (s : State) (v : Word64) : (s.setFrameLength v).ADDR_CMP = s.ADDR_CMP := rfl
@[simp] theorem setFrameLength_ADDR_RES (s : State) (v : Word64) : (s.setFrameLength v).ADDR_RES = s.ADDR_RES := rfl
@[simp] theorem setFrameLength_ADDR_TGT (s : State) (v : Word64) : (s.setFrameLength v).ADDR_TGT = s.ADDR_TGT := rfl
@[simp] theorem setFrameLength_PKT_ID (s : State) (v : Word64) : (s.setFrameLength v).PKT_ID = s.PKT_ID := rfl
@[simp] theorem setFrameLength_PKT_FLAGS (s : State) (v : Word64) : (s.setFrameLength v).PKT_FLAGS = s.PKT_FLAGS := rfl
@[simp] theorem setFrameLength_PKT_REQ (s : State) (v : Word64) : (s.setFrameLength v).PKT_REQ = s.PKT_REQ := rfl
@[simp] theorem setFrameLength_PKT_RSP (s : State) (v : Word64) : (s.setFrameLength v).PKT_RSP = s.PKT_RSP := rfl
@[simp] theorem setFrameLength_PKT_DWS (s : State) (v : Word64) : (s.setFrameLength v).PKT_DWS = s.PKT_DWS := rfl
@[simp] theorem setFrameLength_PKT_DWE (s : State) (v : Word64) : (s.setFrameLength v).PKT_DWE = s.PKT_DWE := rfl
@[simp] theorem setFrameLength_PKT_PLEN (s : State) (v : Word64) : (s.setFrameLength v).PKT_PLEN = s.PKT_PLEN := rfl
@[simp] theorem setFrameLength_PKT_PRESENT (s : State) (v : Word64) : (s.setFrameLength v).PKT_PRESENT = s.PKT_PRESENT := rfl
@[simp] theorem setFrameLength_IBUF (s : State) (v : Word64) : (s.setFrameLength v).IBUF = s.IBUF := rfl
@[simp] theorem setFrameLength_OBUF (s : State) (v : Word64) : (s.setFrameLength v).OBUF = s.OBUF := rfl
@[simp] theorem setFrameLength_PBUF (s : State) (v : Word64) : (s.setFrameLength v).PBUF = s.PBUF := rfl
@[simp] theorem setFrameLength_IN_LEN (s : State) (v : Word64) : (s.setFrameLength v).IN_LEN = s.IN_LEN := rfl
@[simp] theorem setFrameLength_OUT_LEN (s : State) (v : Word64) : (s.setFrameLength v).OUT_LEN = v := rfl
@[simp] theorem setFrameLength_STATUS (s : State) (v : Word64) : (s.setFrameLength v).STATUS = s.STATUS := rfl
@[simp] theorem setFrameLength_CTRL (s : State) (v : Word64) : (s.setFrameLength v).CTRL = s.CTRL := rfl
@[simp] theorem setFrameLength_inputs (s : State) (v : Word64) : (s.setFrameLength v).inputs = s.inputs := rfl
@[simp] theorem setFrameLength_responses (s : State) (v : Word64) : (s.setFrameLength v).responses = s.responses := rfl
@[simp] theorem setFrameLength_epoch (s : State) (v : Word64) : (s.setFrameLength v).epoch = s.epoch := rfl

/-! ### setPacket -/

@[simp] theorem setPacket_FLG_IN (s : State) (p : Packet) : (s.setPacket p).FLG_IN = s.FLG_IN := rfl
@[simp] theorem setPacket_FLG_OUT (s : State) (p : Packet) : (s.setPacket p).FLG_OUT = s.FLG_OUT := rfl
@[simp] theorem setPacket_ADDR_IN (s : State) (p : Packet) : (s.setPacket p).ADDR_IN = s.ADDR_IN := rfl
@[simp] theorem setPacket_ADDR_SVC (s : State) (p : Packet) : (s.setPacket p).ADDR_SVC = s.ADDR_SVC := rfl
@[simp] theorem setPacket_ADDR_CMP (s : State) (p : Packet) : (s.setPacket p).ADDR_CMP = s.ADDR_CMP := rfl
@[simp] theorem setPacket_ADDR_RES (s : State) (p : Packet) : (s.setPacket p).ADDR_RES = s.ADDR_RES := rfl
@[simp] theorem setPacket_ADDR_TGT (s : State) (p : Packet) : (s.setPacket p).ADDR_TGT = s.ADDR_TGT := rfl
@[simp] theorem setPacket_PKT_ID (s : State) (p : Packet) : (s.setPacket p).PKT_ID = p.id.setWidth 64 := rfl
@[simp] theorem setPacket_PKT_FLAGS (s : State) (p : Packet) : (s.setPacket p).PKT_FLAGS = p.flags := rfl
@[simp] theorem setPacket_PKT_REQ (s : State) (p : Packet) : (s.setPacket p).PKT_REQ = p.request_address.setWidth 64 := rfl
@[simp] theorem setPacket_PKT_RSP (s : State) (p : Packet) : (s.setPacket p).PKT_RSP = p.response_address.setWidth 64 := rfl
@[simp] theorem setPacket_PKT_DWS (s : State) (p : Packet) : (s.setPacket p).PKT_DWS = p.data_window_start.setWidth 64 := rfl
@[simp] theorem setPacket_PKT_DWE (s : State) (p : Packet) : (s.setPacket p).PKT_DWE = p.data_window_end.setWidth 64 := rfl
@[simp] theorem setPacket_PKT_PLEN (s : State) (p : Packet) : (s.setPacket p).PKT_PLEN = BitVec.ofNat 64 p.payload.length := rfl
@[simp] theorem setPacket_PKT_PRESENT (s : State) (p : Packet) : (s.setPacket p).PKT_PRESENT = ⟨true, true⟩ := rfl
@[simp] theorem setPacket_IBUF (s : State) (p : Packet) : (s.setPacket p).IBUF = s.IBUF := rfl
@[simp] theorem setPacket_OBUF (s : State) (p : Packet) : (s.setPacket p).OBUF = s.OBUF := rfl
@[simp] theorem setPacket_PBUF (s : State) (p : Packet) : (s.setPacket p).PBUF = s.PBUF := rfl
@[simp] theorem setPacket_IN_LEN (s : State) (p : Packet) : (s.setPacket p).IN_LEN = s.IN_LEN := rfl
@[simp] theorem setPacket_OUT_LEN (s : State) (p : Packet) : (s.setPacket p).OUT_LEN = s.OUT_LEN := rfl
@[simp] theorem setPacket_STATUS (s : State) (p : Packet) : (s.setPacket p).STATUS = s.STATUS := rfl
@[simp] theorem setPacket_CTRL (s : State) (p : Packet) : (s.setPacket p).CTRL = s.CTRL := rfl
@[simp] theorem setPacket_inputs (s : State) (p : Packet) : (s.setPacket p).inputs = s.inputs := rfl
@[simp] theorem setPacket_responses (s : State) (p : Packet) : (s.setPacket p).responses = s.responses := rfl
@[simp] theorem setPacket_epoch (s : State) (p : Packet) : (s.setPacket p).epoch = s.epoch := rfl

/-! ### statusAfter -/

@[simp] theorem statusAfter_DONE (op : BitVec 4) (e : Option ErrorCause) (st : Status) : (statusAfter op e st).DONE = true := rfl
@[simp] theorem statusAfter_ERR (op : BitVec 4) (e : Option ErrorCause) (st : Status) : (statusAfter op e st).ERR = e.isSome := rfl
@[simp] theorem statusAfter_ERR_STICKY (op : BitVec 4) (e : Option ErrorCause) (st : Status) :
    (statusAfter op e st).ERR_STICKY = (st.ERR_STICKY || e.isSome) := rfl
@[simp] theorem statusAfter_ERR_CODE (op : BitVec 4) (e : Option ErrorCause) (st : Status) :
    (statusAfter op e st).ERR_CODE = (e.map ErrorCause.code).getD 0 := rfl
@[simp] theorem statusAfter_LAST_OP (op : BitVec 4) (e : Option ErrorCause) (st : Status) : (statusAfter op e st).LAST_OP = op := rfl

end Sys2Proof.Laws
end

