-- ==== Sys2Proof/Laws/Ops.lean ====
section
/-! SUPPORT. One lemma per shared operation that says once everything it can do; proofs cite these instead of unfolding
the operations. -/

namespace Sys2Proof.Laws

open Sys2Proof.Machine

/-! ### Buffer bytes -/

/-- A buffer byte depends on that buffer's memory and on the draw of the unspecified contents, on nothing else. -/
theorem bufRead_congr {s t : State} {B : Buffer} (hm : s.mem B = t.mem B) (he : s.epoch = t.epoch) (k : Nat) :
    bufRead B k s = bufRead B k t := by
  simp only [bufRead, unwrittenByte, hm, he]

@[simp] theorem bufRead_setStatus (B : Buffer) (k : Nat) (st : Status) (s : State) :
    bufRead B k (s.setStatus st) = bufRead B k s := bufRead_congr (by cases B <;> rfl) rfl k

@[simp] theorem bufRead_complete (B : Buffer) (k : Nat) (op : BitVec 4) (e : Option ErrorCause) (s : State) :
    bufRead B k (complete op e s) = bufRead B k s := bufRead_congr (by cases B <;> rfl) rfl k

@[simp] theorem bufRead_raise (B : Buffer) (k : Nat) (op : BitVec 4) (e : ErrorCause) (s : State) :
    bufRead B k (raise op e s) = bufRead B k s := bufRead_complete B k op (some e) s

@[simp] theorem bufRead_setFlagsResult (B : Buffer) (k : Nat) (v : Word64) (s : State) :
    bufRead B k (s.setFlagsResult v) = bufRead B k s := bufRead_congr (by cases B <;> rfl) rfl k

@[simp] theorem bufRead_setAddressResult (B : Buffer) (k : Nat) (svc cmp res : BitVec 16) (target : Target) (s : State) :
    bufRead B k (s.setAddressResult svc cmp res target) = bufRead B k s := bufRead_congr (by cases B <;> rfl) rfl k

@[simp] theorem bufRead_setFrameLength (B : Buffer) (k : Nat) (v : Word64) (s : State) :
    bufRead B k (s.setFrameLength v) = bufRead B k s := bufRead_congr (by cases B <;> rfl) rfl k

@[simp] theorem bufRead_setPacket (B : Buffer) (k : Nat) (p : Packet) (s : State) :
    bufRead B k (s.setPacket p) = bufRead B k s := bufRead_congr (by cases B <;> rfl) rfl k

@[simp] theorem bufRead_clearRegisters (B : Buffer) (k : Nat) (s : State) :
    bufRead B k (clearRegisters s) = bufRead B k s := bufRead_congr (by cases B <;> rfl) rfl k

@[simp] theorem bufRead_withInputs (B : Buffer) (k : Nat) (rest : List Input) (s : State) :
    bufRead B k (s.withInputs rest) = bufRead B k s := bufRead_congr (by cases B <;> rfl) rfl k

@[simp] theorem bufRead_respond (B : Buffer) (k : Nat) (v : Word64) (s : State) :
    bufRead B k (s.respond v) = bufRead B k s := bufRead_congr (by cases B <;> rfl) rfl k

theorem bufRead_bufWrite (B C : Buffer) (j k : Nat) (b : Byte) (s : State) :
    bufRead C j (bufWrite B k b s) = if C = B ∧ j = k then b else bufRead C j s := by
  by_cases h : C = B
  · subst h
    by_cases hj : j = k <;> simp [bufRead, bufWrite, unwrittenByte, hj]
  · simp [bufRead, bufWrite, unwrittenByte, h]

theorem bufRead_bufWriteBytes (B C : Buffer) (j k : Nat) (bs : List Byte) (s : State) :
    bufRead C j (bufWriteBytes B k bs s) =
      if C = B ∧ k ≤ j ∧ j < k + bs.length then bs.getD (j - k) 0 else bufRead C j s := by
  by_cases h : C = B
  · subst h
    by_cases hj : k ≤ j ∧ j < k + bs.length
    · have hl : j - k < bs.length := by omega
      simp [bufRead, bufWriteBytes, unwrittenByte, lookup_writeBytes, hj, hl]
    · simp [bufRead, bufWriteBytes, unwrittenByte, lookup_writeBytes, hj]
  · simp [bufRead, bufWriteBytes, unwrittenByte, h]

@[simp] theorem bufBytes_length (B : Buffer) (lo n : Nat) (s : State) : (bufBytes B lo n s).length = n := by
  simp [bufBytes]

theorem bufBytes_getD (B : Buffer) (lo n k : Nat) (s : State) (d : Byte) :
    (bufBytes B lo n s).getD k d = if k < n then bufRead B (lo + k) s else d := by
  by_cases h : k < n <;> simp [bufBytes, List.getD, h]

/-! ### How a command ends -/

/-- An error changes STATUS and nothing else. -/
theorem raise_eq (op : BitVec 4) (e : ErrorCause) (s : State) :
    raise op e s =
      { s with STATUS := { DONE := true, ERR := true, ERR_STICKY := true, ERR_CODE := e.code, LAST_OP := op } } := by
  simp [raise, complete, State.setStatus, statusAfter]

/-- A command without an error keeps ERR_STICKY. -/
theorem complete_none_eq (op : BitVec 4) (s : State) :
    complete op none s =
      { s with
        STATUS := { DONE := true, ERR := false, ERR_STICKY := s.STATUS.ERR_STICKY, ERR_CODE := 0, LAST_OP := op } } := by
  simp [complete, State.setStatus, statusAfter]

/-! ### What a step can do -/

/-- All that one access can do: a refusal by the address map, a byte write whose data is no byte, a command, a register
write, a byte write, or a read that changes only the responses. -/
theorem hostAccess_cases (frameMax : Nat) (a : Access) (s : State) :
    (∃ r, hostAccess frameMax a s = .refused r)
    ∨ (∃ offset size data, a = .write offset size data ∧ locate frameMax offset size = .ok (.register .CMD)
        ∧ hostAccess frameMax a s = exec (decode data) s)
    ∨ (∃ offset size data r, a = .write offset size data ∧ r ≠ .CMD ∧ locate frameMax offset size = .ok (.register r)
        ∧ hostAccess frameMax a s = .next (regWrite r data s))
    ∨ (∃ offset size data B k, a = .write offset size data ∧ data.toNat < 256
        ∧ locate frameMax offset size = .ok (.byte B k)
        ∧ hostAccess frameMax a s = .next (hostBufWrite B k (data.setWidth 8) s))
    ∨ (∃ offset size p, a = .read offset size ∧ locate frameMax offset size = .ok p
        ∧ hostAccess frameMax a s = .next (s.respond (readPlace p s))) := by
  cases a with
  | write offset size data =>
    simp only [hostAccess]
    cases h : locate frameMax offset size with
    | error r => exact .inl ⟨r, rfl⟩
    | ok p =>
      cases p with
      | register r =>
        by_cases hr : r = .CMD
        · subst hr; exact .inr (.inl ⟨offset, size, data, rfl, h, rfl⟩)
        · refine .inr (.inr (.inl ⟨offset, size, data, r, rfl, hr, h, ?_⟩))
          cases r <;> first | rfl | exact absurd rfl hr
      | byte B k =>
        by_cases hd : data.toNat < 256
        · exact .inr (.inr (.inr (.inl ⟨offset, size, data, B, k, rfl, hd, h, by simp [writePlace, hd]⟩)))
        · exact .inl ⟨.bufferDataNotAByte, by simp [writePlace, hd]⟩
  | read offset size =>
    simp only [hostAccess]
    cases h : locate frameMax offset size with
    | error r => exact .inl ⟨r, rfl⟩
    | ok p => exact .inr (.inr (.inr (.inr ⟨offset, size, p, rfl, h, rfl⟩)))

/-- All that one step can do. -/
theorem step_cases (s : State) :
    (s.inputs = [] ∧ step s = .next s)
    ∨ (∃ rest, s.inputs = .reset :: rest ∧ step s = .next (resetBlock (s.withInputs rest)))
    ∨ (∃ a rest, s.inputs = .access a :: rest ∧ step s = hostAccess Config.FRAME_MAX a (s.withInputs rest)) := by
  simp only [step, advance]
  cases h : s.inputs with
  | nil => exact .inl ⟨rfl, rfl⟩
  | cons i rest =>
    cases i with
    | reset => exact .inr (.inl ⟨rest, rfl, rfl⟩)
    | access a => exact .inr (.inr ⟨a, rest, rfl, rfl⟩)

/-! ### The frame commands -/

/-- All that FRAME_PARSE can do. -/
theorem frameParseCommand_cases (frameMax : Nat) (s : State) :
    (frameMax < frameLength s ∧ frameParseCommand frameMax s = raise 0x3 .LEN_RANGE s)
    ∨ (frameLength s ≤ frameMax ∧ strictPolicy s = true ∧ frameLength s < 28
        ∧ frameParseCommand frameMax s = raise 0x3 .FRAME_SHORT s)
    ∨ (frameLength s ≤ frameMax ∧ ¬ (strictPolicy s = true ∧ frameLength s < 28)
        ∧ frameParseCommand frameMax s = complete 0x3 none (loadPacket (frameParse (frameOperand s)) s)) := by
  simp only [frameParseCommand, Config.HDR_BYTES]
  split_ifs with h1 h2
  · exact .inl ⟨h1, rfl⟩
  · exact .inr (.inl ⟨Nat.le_of_not_lt h1, h2.1, h2.2, if_pos h2⟩)
  · exact .inr (.inr ⟨Nat.le_of_not_lt h1, h2, if_neg h2⟩)

/-- All that FRAME_SERIALIZE can do. -/
theorem frameSerializeCommand_cases (frameMax : Nat) (s : State) :
    (packetFieldMissing s = true ∧ frameSerializeCommand frameMax s = raise 0x4 .MISSING_FIELD s)
    ∨ (packetFieldMissing s = false ∧ Config.payloadMax frameMax < payloadLength s
        ∧ frameSerializeCommand frameMax s = raise 0x4 .LEN_RANGE s)
    ∨ (packetFieldMissing s = false ∧ payloadLength s ≤ Config.payloadMax frameMax ∧ strictPolicy s = true
        ∧ packetFieldTooWide s = true ∧ frameSerializeCommand frameMax s = raise 0x4 .FIELD_OVERFLOW s)
    ∨ (packetFieldMissing s = false ∧ payloadLength s ≤ Config.payloadMax frameMax
        ∧ ¬ (strictPolicy s = true ∧ packetFieldTooWide s = true)
        ∧ frameSerializeCommand frameMax s = complete 0x4 none (storeFrame (packetFrame s) s)) := by
  simp only [frameSerializeCommand]
  split_ifs with h1 h2 h3
  · exact .inl ⟨h1, rfl⟩
  · exact .inr (.inl ⟨by simpa using h1, h2, rfl⟩)
  · exact .inr (.inr (.inl ⟨by simpa using h1, Nat.le_of_not_lt h2, h3.1, h3.2, rfl⟩))
  · exact .inr (.inr (.inr ⟨by simpa using h1, Nat.le_of_not_lt h2, h3, rfl⟩))

@[simp] theorem split_length (v L : Nat) : (split v L).length = L := by simp [split]

/-! ### The address map -/

@[simp] theorem regAt_offset (r : Reg) : regAt r.offset = some r := by cases r <;> rfl

theorem regAt_eq_some {offset : Nat} {r : Reg} (h : regAt offset = some r) : offset = r.offset := by
  have := List.find?_some h
  simpa using (beq_iff_eq.1 this).symm

theorem locate_register (frameMax : Nat) (r : Reg) : locate frameMax r.offset 8 = .ok (.register r) := by
  cases r <;> rfl

theorem locate_byte {frameMax : Nat} (hf : frameMax ≤ 2 ^ 24) (B : Buffer) {k : Nat} (hk : k < bufSize frameMax B) :
    locate frameMax (windowBase B + k) 1 = .ok (.byte B k) := by
  have hk24 : k < 2 ^ 24 := by
    cases B <;> simp only [bufSize, Config.payloadMax, Config.HDR_BYTES] at hk <;> omega
  cases B with
  | IBUF =>
    have hd : (windowBase .IBUF + k) / 2 ^ 24 = 1 := by simp only [windowBase]; omega
    have hm : (windowBase .IBUF + k) % 2 ^ 24 = k := by simp only [windowBase]; omega
    simp only [locate, hd, hm, locateByte, ne_eq, not_true, if_false, if_pos hk]
  | OBUF =>
    have hd : (windowBase .OBUF + k) / 2 ^ 24 = 2 := by simp only [windowBase]; omega
    have hm : (windowBase .OBUF + k) % 2 ^ 24 = k := by simp only [windowBase]; omega
    simp only [locate, hd, hm, locateByte, ne_eq, not_true, if_false, if_pos hk]
  | PBUF =>
    have hd : (windowBase .PBUF + k) / 2 ^ 24 = 3 := by simp only [windowBase]; omega
    have hm : (windowBase .PBUF + k) % 2 ^ 24 = k := by simp only [windowBase]; omega
    simp only [locate, hd, hm, locateByte, ne_eq, not_true, if_false, if_pos hk]

/-- All that the address map admits: a whole register, or one byte of a buffer below its size. -/
theorem locate_eq_ok {frameMax offset size : Nat} {p : Place} (h : locate frameMax offset size = .ok p) :
    (∃ r, p = .register r ∧ offset = r.offset ∧ size = 8)
    ∨ (∃ B k, p = .byte B k ∧ offset = windowBase B + k ∧ size = 1 ∧ k < bufSize frameMax B) := by
  have hbyte : ∀ {B : Buffer} {k : Nat}, locateByte frameMax B k size = .ok p →
      p = .byte B k ∧ size = 1 ∧ k < bufSize frameMax B := by
    intro B k hb
    simp only [locateByte] at hb
    split_ifs at hb with h1 h2
    · cases hb; exact ⟨rfl, by omega, h2⟩
  simp only [locate] at h
  split at h
  · split_ifs at h with h1 h2
    · split at h
      · rename_i r hr
        cases h
        exact .inl ⟨r, rfl, regAt_eq_some hr, by omega⟩
      · cases h
  · obtain ⟨h1, h2, h3⟩ := hbyte h
    exact .inr ⟨.IBUF, _, h1, by simp only [windowBase]; omega, h2, h3⟩
  · obtain ⟨h1, h2, h3⟩ := hbyte h
    exact .inr ⟨.OBUF, _, h1, by simp only [windowBase]; omega, h2, h3⟩
  · obtain ⟨h1, h2, h3⟩ := hbyte h
    exact .inr ⟨.PBUF, _, h1, by simp only [windowBase]; omega, h2, h3⟩
  · cases h

end Sys2Proof.Laws
end

