-- ==== Sys2Proof/Laws/PerInstr.lean ====
section
/-! SUPPORT. Facts about every command as syntax, one lemma per constructor. -/

namespace Sys2Proof.Laws

/-- The two fields of a command's word are the command's opcode and its reserved bits (30_encoding.md R67). -/
def EncodeFields.Statement (i : Instr) : Prop :=
  opcodeField (encode i) = i.opcode ∧ reservedField (encode i) = i.reservedBits

theorem EncodeFields.nop : EncodeFields.Statement .nop := ⟨by decide, by decide⟩

theorem EncodeFields.flagsPack : EncodeFields.Statement .flagsPack := ⟨by decide, by decide⟩

theorem EncodeFields.flagsUnpack : EncodeFields.Statement .flagsUnpack := ⟨by decide, by decide⟩

theorem EncodeFields.frameParse : EncodeFields.Statement .frameParse := ⟨by decide, by decide⟩

theorem EncodeFields.frameSerialize : EncodeFields.Statement .frameSerialize := ⟨by decide, by decide⟩

theorem EncodeFields.addrDecode : EncodeFields.Statement .addrDecode := ⟨by decide, by decide⟩

theorem EncodeFields.clear : EncodeFields.Statement .clear := ⟨by decide, by decide⟩

theorem EncodeFields.reserved7 : EncodeFields.Statement .reserved7 := ⟨by decide, by decide⟩

theorem EncodeFields.reserved8 : EncodeFields.Statement .reserved8 := ⟨by decide, by decide⟩

theorem EncodeFields.reserved9 : EncodeFields.Statement .reserved9 := ⟨by decide, by decide⟩

theorem EncodeFields.reservedA : EncodeFields.Statement .reservedA := ⟨by decide, by decide⟩

theorem EncodeFields.reservedB : EncodeFields.Statement .reservedB := ⟨by decide, by decide⟩

theorem EncodeFields.reservedC : EncodeFields.Statement .reservedC := ⟨by decide, by decide⟩

theorem EncodeFields.reservedD : EncodeFields.Statement .reservedD := ⟨by decide, by decide⟩

theorem EncodeFields.reservedE : EncodeFields.Statement .reservedE := ⟨by decide, by decide⟩

theorem EncodeFields.reservedF : EncodeFields.Statement .reservedF := ⟨by decide, by decide⟩

theorem EncodeFields.reservedHighBits (reserved : BitVec 60) (opcode : BitVec 4) :
    EncodeFields.Statement (.reservedHighBits reserved opcode) := by
  constructor
  · exact BitVec.extractLsb'_append_eq_right
  · exact BitVec.extractLsb'_append_eq_left

/-- The fields of every command's word. -/
theorem encodeFields (i : Instr) : EncodeFields.Statement i := by
  cases i with
  | nop => exact EncodeFields.nop
  | flagsPack => exact EncodeFields.flagsPack
  | flagsUnpack => exact EncodeFields.flagsUnpack
  | frameParse => exact EncodeFields.frameParse
  | frameSerialize => exact EncodeFields.frameSerialize
  | addrDecode => exact EncodeFields.addrDecode
  | clear => exact EncodeFields.clear
  | reserved7 => exact EncodeFields.reserved7
  | reserved8 => exact EncodeFields.reserved8
  | reserved9 => exact EncodeFields.reserved9
  | reservedA => exact EncodeFields.reservedA
  | reservedB => exact EncodeFields.reservedB
  | reservedC => exact EncodeFields.reservedC
  | reservedD => exact EncodeFields.reservedD
  | reservedE => exact EncodeFields.reservedE
  | reservedF => exact EncodeFields.reservedF
  | reservedHighBits reserved opcode => exact EncodeFields.reservedHighBits reserved opcode

end Sys2Proof.Laws
end

