-- ==== Sys2Proof/Machine/HostProgram.lean ====
section
/-! DEFINITION. The host program notation: transactions and pseudo-instructions as lists of host transactions
(30_encoding.md R74, R75). -/

namespace Sys2Proof.Machine

/-- `WR <REG>, <v>` (30_encoding.md R74). -/
def wr (r : Reg) (v : Word64) : Input := .access (.write r.offset 8 v)

/-- `RD <REG>` (30_encoding.md R74). -/
def rd (r : Reg) : Input := .access (.read r.offset 8)

/-- `WRB <BUF>[k], <b>` (30_encoding.md R74). -/
def wrb (B : Buffer) (k : Nat) (b : Byte) : Input := .access (.write (windowBase B + k) 1 (b.setWidth 64))

/-- `RDB <BUF>[k]` (30_encoding.md R74). -/
def rdb (B : Buffer) (k : Nat) : Input := .access (.read (windowBase B + k) 1)

/-- `<MNEMONIC>`: the same as `WR CMD, <OPCODE>` (30_encoding.md R74, R76). -/
def cmd (i : Instr) : Input := wr .CMD (encode i)

/-- `WRB B[k], b0`, `WRB B[k+1], b1`, and so on. -/
def wrbs (B : Buffer) (k : Nat) : List Byte → List Input
  | [] => []
  | b :: bs => wrb B k b :: wrbs B (k + 1) bs

/-- `LOADFRAME b0 b1 ...` (30_encoding.md R75). -/
def loadFrame (bs : List Byte) : List Input := wrbs .IBUF 0 bs ++ [wr .IN_LEN (BitVec.ofNat 64 bs.length)]

/-- `LOADPAYLOAD b0 b1 ...` (30_encoding.md R75). -/
def loadPayload (bs : List Byte) : List Input := wrbs .PBUF 0 bs ++ [wr .PKT_PLEN (BitVec.ofNat 64 bs.length)]

/-- `SETPKT id, flags, req, rsp, dws, dwe` (30_encoding.md R75). -/
def setPkt (id flags req rsp dws dwe : Word64) : List Input :=
  [wr .PKT_ID id, wr .PKT_FLAGS flags, wr .PKT_REQ req, wr .PKT_RSP rsp, wr .PKT_DWS dws, wr .PKT_DWE dwe]

/-- `STRICT` (30_encoding.md R75). -/
def strict : Input := wr .CTRL 1

/-- `LENIENT` (30_encoding.md R75). -/
def lenient : Input := wr .CTRL 0

end Sys2Proof.Machine
end

