-- ==== Sys2Proof/Tests/Slice0.lean ====
section
/-! SUPPORT. Tests: the WellFormed smoke test, decoding of words written out from 30_encoding.md R67 to R70, single steps
with expected values from 95_test_vectors.md, and a witness for every statement that has hypotheses. -/

namespace Sys2Proof.Tests

open Sys2Proof.Machine Sys2Proof.Safety

/-! ### Helpers -/

/-- A field of the next state, if there is one. -/
def after {α : Type} (r : Result) (f : State → α) : Option α :=
  match r with
  | .next t => some (f t)
  | .fault _ => none
  | .refused _ => none

/-- STATUS and one more value after a command. -/
def report {α : Type} (s : State) (f : State → α) : Word64 × α := (statusWord s.STATUS, f s)

/-- The block after reset with the frame `bs` loaded. -/
def framed (bs : List Byte) : State :=
  { State.reset with IBUF := Memory.writeBytes 0 bs [], IN_LEN := BitVec.ofNat 64 bs.length }

/-- The block after reset with a mandatory part of a packet set. -/
def packet (id : Word64) (flags : BitVec 8) : State :=
  { State.reset with PKT_ID := id, PKT_FLAGS := flags, PKT_PRESENT := { ID := true, FLAGS := true } }

/-- The block after reset with one transaction pending. -/
def pending (i : Input) : State := State.reset.withInputs [i]

/-- The block after reset with one command word pending. -/
def pendingCmd (v : Word64) : State := pending (.access (.write 0x000 8 v))

/-- The frame of the vector FP10. -/
def frameFP10 : List Byte :=
  [0x00, 0x2A, 0x81, 0xFF, 0x00, 0x01, 0x00, 0x02, 0x00, 0x03, 0x00, 0x00, 0x00, 0x00, 0x00, 0x07,
    0x00, 0x00, 0x00, 0x00, 0x00, 0x10, 0x00, 0x00, 0x00, 0x00, 0x00, 0x20, 0xDE, 0xAD]

/-! ### WellFormed -/

/-- The one check: a command with reserved bits has one of them set (30_encoding.md R70). -/
theorem test_reserved_bits_all_zero_is_ill_formed : (Instr.reservedHighBits 0 3).wellFormed = false := by decide

theorem test_reserved_bit_set_is_well_formed : (Instr.reservedHighBits 1 3).wellFormed = true := by decide

/-! ### Decoding -/

/-- The seven commands, each word written out from 30_encoding.md R68. -/
theorem test_decode_commands :
    decode 0x0000000000000000 = .nop ∧ decode 0x0000000000000001 = .flagsPack
    ∧ decode 0x0000000000000002 = .flagsUnpack ∧ decode 0x0000000000000003 = .frameParse
    ∧ decode 0x0000000000000004 = .frameSerialize ∧ decode 0x0000000000000005 = .addrDecode
    ∧ decode 0x0000000000000006 = .clear := by decide

/-- The reserved opcodes (30_encoding.md R69). -/
theorem test_decode_reserved :
    decode 0x7 = .reserved7 ∧ decode 0x8 = .reserved8 ∧ decode 0x9 = .reserved9 ∧ decode 0xA = .reservedA
    ∧ decode 0xB = .reservedB ∧ decode 0xC = .reservedC ∧ decode 0xD = .reservedD ∧ decode 0xE = .reservedE
    ∧ decode 0xF = .reservedF := by decide

/-- Bit by bit, most significant first: 60 reserved bits, then OPCODE (30_encoding.md R67, R70; vectors CT4 to CT6). -/
theorem test_decode_bit_by_bit :
    decode 0b0000000000000000000000000000000000000000000000000000000000000101 = .addrDecode
    ∧ decode 0b0000000000000000000000000000000000000000000000000000000000010011 = .reservedHighBits 1 3
    ∧ decode 0b0000000000000000000000000000000000000000000000000000000000010000 = .reservedHighBits 1 0
    ∧ decode 0b1000000000000000000000000000000000000000000000000000000000000000
      = .reservedHighBits 0x800000000000000 0 := by decide

theorem test_decode_table_word :
    decodeTableWord 64 4 = some .frameSerialize ∧ decodeTableWord 64 0x13 = some (.reservedHighBits 1 3)
    ∧ decodeNat (2 ^ 64) = .error .widerThanCommandWord := by decide

/-! ### Steps -/

/-- The placed command word is the one the next step runs. -/
theorem test_step_of_placed_word :
    after (step (State.reset.withFetchWord 64 0)) (fun t => statusWord t.STATUS) = some 0x001
    ∧ after (step (State.reset.withFetchWord 64 3)) (fun t => statusWord t.STATUS) = some 0x301
    ∧ after (step (State.reset.withFetchWord 64 4)) (fun t => statusWord t.STATUS) = some 0x437 := by decide

/-- Vector CT7. -/
theorem test_nop_keeps_sticky :
    after (exec .reserved7 State.reset) (fun s => after (exec .nop s) (fun t => statusWord t.STATUS))
      = some (some 0x005) := by decide

/-- Vectors FL5 and FL6. -/
theorem test_flags_pack :
    after (exec .flagsPack { State.reset with FLG_IN := 0x1FF }) (fun t => report t (·.FLG_OUT)) = some (0x101, 0xFF00)
    ∧ after (exec .flagsPack { State.reset with FLG_IN := 0x8000 }) (fun t => report t (·.FLG_OUT)) = some (0x101, 0) := by
  decide

/-- Vectors FL12 and FL13. -/
theorem test_flags_unpack :
    after (exec .flagsUnpack { State.reset with FLG_IN := 0x8000 }) (fun t => report t (·.FLG_OUT)) = some (0x201, 0x80)
    ∧ after (exec .flagsUnpack { State.reset with FLG_IN := 0xA55A }) (fun t => report t (·.FLG_OUT))
      = some (0x201, 0xA5) := by decide

/-- Vector FL14. -/
theorem test_flags_unpack_range :
    after (exec .flagsUnpack { State.reset with FLG_IN := 0x10000 }) (fun t => report t (·.FLG_OUT))
      = some (0x217, 0) := by decide

/-- Vector FP10, the example of 41_frame_codec.md R89. -/
theorem test_frame_parse :
    report (frameParseCommand 2048 (framed frameFP10))
      (fun t => (t.PKT_ID, t.PKT_FLAGS, t.PKT_REQ, t.PKT_RSP, t.PKT_DWS, t.PKT_DWE, t.PKT_PLEN))
      = (0x301, 0x2A, 0x81, 0x000100020003, 0x7, 0x10, 0x20, 2)
    ∧ (frameParseCommand 2048 (framed frameFP10)).PBUF = [(0, 0xDE), (1, 0xAD)] := by decide

/-- Vectors FP5, FP12 and FP15: zero padding on the right; LEN_RANGE before FRAME_SHORT; FRAME_SHORT. -/
theorem test_frame_parse_short_and_long :
    report (frameParseCommand 2048 (framed [0x12, 0x34, 0x56, 0x78, 0x9A])) (fun t => (t.PKT_ID, t.PKT_FLAGS, t.PKT_REQ))
      = (0x301, 0x1234, 0x56, 0x9A0000000000)
    ∧ report (frameParseCommand 2048 { State.reset with IN_LEN := 2049, CTRL := { STRICT := true } }) (·.PKT_ID)
      = (0x327, 0)
    ∧ report (frameParseCommand 2048 { State.reset with IN_LEN := 27, CTRL := { STRICT := true } }) (·.PKT_PRESENT)
      = (0x347, { ID := false, FLAGS := false }) := by decide

/-- Vector FS4, the example of 41_frame_codec.md R94. -/
theorem test_frame_serialize :
    report (frameSerializeCommand 2048 { packet 0x0102 0x40 with PKT_REQ := 0x101, PKT_PLEN := 1, PBUF := [(0, 0x55)] })
      (fun t => (t.OUT_LEN, t.OBUF.map Prod.snd))
      = (0x401, 29, [0x01, 0x02, 0x40, 0x00, 0x00, 0x00, 0x00, 0x00, 0x01, 0x01] ++ List.replicate 18 0 ++ [0x55]) := by
  decide

/-- Vectors FS10, FS12, FS13 and FS7. -/
theorem test_frame_serialize_truncates_and_raises :
    (frameSerializeCommand 2048 { packet 0 0 with PKT_DWE := 0xFFFF0123456789AB }).OBUF.map Prod.snd
      = List.replicate 22 0 ++ [0x01, 0x23, 0x45, 0x67, 0x89, 0xAB]
    ∧ report (frameSerializeCommand 2048
        { State.reset with PKT_PRESENT := { ID := false, FLAGS := true }, PKT_PLEN := 2021 }) (·.OUT_LEN) = (0x437, 0)
    ∧ report (frameSerializeCommand 2048 { packet 0x10000 0 with PKT_PLEN := 2021, CTRL := { STRICT := true } })
        (·.OUT_LEN) = (0x427, 0)
    ∧ report (frameSerializeCommand 2048 { packet 0x12345 0 with CTRL := { STRICT := true } }) (·.OUT_LEN)
      = (0x457, 0) := by decide

/-- Vectors AD5 and AD10. -/
theorem test_addr_decode :
    after (exec .addrDecode { State.reset with ADDR_IN := 0xFFFF000100020003 })
      (fun t => report t (fun t => (t.ADDR_SVC, t.ADDR_CMP, t.ADDR_RES, targetWord t.ADDR_TGT)))
      = some (0x501, 1, 2, 3, 0x30003)
    ∧ after (exec .addrDecode { State.reset with ADDR_IN := 0x50000 })
      (fun t => report t (fun t => (t.ADDR_SVC, t.ADDR_CMP, t.ADDR_RES, targetWord t.ADDR_TGT)))
      = some (0x501, 0, 5, 0, 0x20005) := by decide

/-- Vectors AD11 and AD4. -/
theorem test_addr_decode_service_and_none :
    after (exec .addrDecode { State.reset with ADDR_IN := 0x000500000000 }) (fun t => targetWord t.ADDR_TGT)
      = some 0x10005
    ∧ after (exec .addrDecode { State.reset with ADDR_IN := 0x0001000000000000 }) (fun t => targetWord t.ADDR_TGT)
      = some 0 := by decide

/-- Vector CT9: CLEAR after an error; the buffers stay (43_control.md R106). -/
theorem test_clear :
    after (exec .clear (raise 0x2 .FLAGS_RANGE { packet 5 1 with FLG_IN := 0x10000, IBUF := [(0, 0x12)] }))
      (fun t => report t (fun t => (t.FLG_IN, t.PKT_ID, presentWord t.PKT_PRESENT, t.IBUF.map Prod.snd)))
      = some (0x601, 0, 0, 0, [0x12]) := by decide

/-- Vectors CT2 to CT6. -/
theorem test_bad_commands :
    after (step (pendingCmd 0x7)) (fun t => statusWord t.STATUS) = some 0x767
    ∧ after (step (pendingCmd 0xF)) (fun t => statusWord t.STATUS) = some 0xF67
    ∧ after (step (pendingCmd 0x13)) (fun t => statusWord t.STATUS) = some 0x367
    ∧ after (step (pendingCmd 0x10)) (fun t => statusWord t.STATUS) = some 0x067
    ∧ after (step (pendingCmd 0x8000000000000000)) (fun t => statusWord t.STATUS) = some 0x067 := by decide

/-- The opcodes of the other reserved words (43_control.md R107). -/
theorem test_reserved_last_op :
    [Instr.reserved8, .reserved9, .reservedA, .reservedB, .reservedC, .reservedD, .reservedE].map
      (fun i => after (exec i State.reset) (fun t => statusWord t.STATUS))
      = [some 0x867, some 0x967, some 0xA67, some 0xB67, some 0xC67, some 0xD67, some 0xE67] := by decide

/-! ### Host accesses -/

/-- Vectors HA1, HA5, HA6 and HA7. -/
theorem test_register_accesses :
    capWord 2048 = 0x000001000008001C
    ∧ after (step (pending (wr .CTRL 0xFFFF))) (regRead .CTRL) = some 1
    ∧ after (step (pending (wr .PKT_FLAGS 0x1FF))) (fun t => (regRead .PKT_FLAGS t, regRead .PKT_PRESENT t))
      = some (0xFF, 2)
    ∧ after (step (pending (wr .PKT_ID 0x12345))) (fun t => (regRead .PKT_ID t, regRead .PKT_PRESENT t))
      = some (0x12345, 1)
    ∧ after (step (pending (wr .OUT_LEN 5))) (regRead .OUT_LEN) = some 0 := by decide

/-- Vectors HA14 to HA21. -/
theorem test_address_map :
    locate 2048 0x010007FF 1 = .ok (.byte .IBUF 2047)
    ∧ locate 2048 0x01000800 1 = .error .bufferIndexOutOfRange
    ∧ locate 2048 0x030007E3 1 = .ok (.byte .PBUF 2019)
    ∧ locate 2048 0x030007E4 1 = .error .bufferIndexOutOfRange
    ∧ locate 2048 0x020 4 = .error .registerAccessSize
    ∧ locate 2048 0x024 8 = .error .registerAccessAlignment
    ∧ locate 2048 0x0B0 8 = .error .unmappedOffset
    ∧ locate 2048 0x01000000 2 = .error .bufferAccessSize
    ∧ locate 2048 0x04000000 1 = .error .unmappedOffset := by decide

/-- Vector HA11, and a host read that returns its value. -/
theorem test_buffer_accesses :
    after (hostAccess 2048 (.write 0x01000005 1 0xAB) State.reset) (fun t => (t.IBUF, t.IN_LEN)) = some ([(5, 0xAB)], 0)
    ∧ after (hostAccess 2048 (.read 0x01000005 1) { State.reset with IBUF := [(5, 0xAB)] }) (·.responses)
      = some [0xAB] := by decide

/-- 30_encoding.md R75, with the encodings of program P3. -/
theorem test_host_notation :
    loadFrame [0x12, 0x34] = [.access (.write 0x01000000 1 0x12), .access (.write 0x01000001 1 0x34),
      .access (.write 0x098 8 2)]
    ∧ cmd .frameParse = .access (.write 0x000 8 3) ∧ strict = .access (.write 0x010 8 1) := by decide

/-! ### Witnesses: states and operands that meet the hypotheses of the statements -/

theorem witness_DecodeInvertsEncode :
    (Instr.reservedHighBits 1 3).wellFormed = true ∧ Instr.reservedF.wellFormed = true := by decide

theorem witness_EveryWordEncodesOneCommand :
    Instr.clear.wellFormed = true ∧ encode .clear = 6 := by decide

theorem witness_WordsAboveSixAreIllegal :
    6 < (7 : Word64).toNat ∧ 6 < (0x10 : Word64).toNat ∧ (6 : Word64).toNat ≤ 6 := by decide

/-- One state for each of the eight clauses. -/
theorem witness_CommandIssueSelectsByWord :
    (∀ v : Word64, (pendingCmd v).inputs = .access (.write 0x000 8 v) :: []) ∧ 6 < (7 : Word64).toNat :=
  ⟨fun _ => rfl, by decide⟩

theorem witness_StepRunsTheDecodedCommand :
    (pendingCmd 0xFFFFFFFFFFFFFFFF).inputs = .access (.write 0x000 8 0xFFFFFFFFFFFFFFFF) :: [] := by decide

theorem witness_StepTakesTheFirstTransaction :
    State.reset.inputs = [] ∧ (pending .reset).inputs = .reset :: []
    ∧ (pending (rd .CAP)).inputs = .access (.read 0x018 8) :: [] := by decide

theorem witness_FlagsWordLayout :
    0 < 8 ∧ 7 < 8 ∧ (0xA55A : BitVec 16).toNat / 2 ^ 8 = (0xA500 : BitVec 16).toNat / 2 ^ 8 := by decide

theorem witness_FlagsUnpackResult :
    ({ State.reset with FLG_IN := 0xFFFF } : State).FLG_IN.toNat ≤ 0xFFFF
    ∧ 0xFFFF < ({ State.reset with FLG_IN := 0x10000 } : State).FLG_IN.toNat := by decide

theorem witness_FlagsRoundTrip : ({ State.reset with FLG_IN := 0xFFFF } : State).FLG_IN.toNat ≤ 0xFFFF := by decide

theorem witness_HeaderFieldsAreBitsOfTheHeader : 28 ≤ (frameFP10.take 28).length := by decide

/-- The three clauses at the boundaries of the length, for capacities 28, 2048 and 2^24. -/
theorem witness_FrameParseResult :
    (28 ≤ 28 ∧ 28 ≤ 2 ^ 24 ∧ 28 ≤ 2048 ∧ 2048 ≤ 2 ^ 24 ∧ 28 ≤ 2 ^ 24 ∧ 2 ^ 24 ≤ 2 ^ 24)
    ∧ 2048 < ({ State.reset with IN_LEN := 2049 } : State).IN_LEN.toNat
    ∧ ({ State.reset with IN_LEN := 27, CTRL := { STRICT := true } } : State).IN_LEN.toNat ≤ 2048
    ∧ ({ State.reset with IN_LEN := 27, CTRL := { STRICT := true } } : State).CTRL.STRICT = true
    ∧ ({ State.reset with IN_LEN := 27, CTRL := { STRICT := true } } : State).IN_LEN.toNat < 28
    ∧ ({ State.reset with IN_LEN := 28, CTRL := { STRICT := true } } : State).IN_LEN.toNat ≤ 2048
    ∧ 28 ≤ ({ State.reset with IN_LEN := 28, CTRL := { STRICT := true } } : State).IN_LEN.toNat
    ∧ ({ State.reset with IN_LEN := 2048 } : State).IN_LEN.toNat ≤ 2048
    ∧ ({ State.reset with IN_LEN := 2048 } : State).CTRL.STRICT = false
    ∧ 2019 < ({ State.reset with IN_LEN := 2048 } : State).IN_LEN.toNat - 28
    ∧ ({ State.reset with IN_LEN := 2048 } : State).IN_LEN.toNat - 28 ≤ 2020 := by decide

theorem witness_StrictParseDiffersOnlyOnShortFrames :
    ({ State.reset with IN_LEN := 27, CTRL := { STRICT := true } } : State).CTRL.STRICT = true
    ∧ ({ State.reset with IN_LEN := 27, CTRL := { STRICT := true } } : State).IN_LEN.toNat < 28
    ∧ 28 ≤ ({ State.reset with IN_LEN := 28 } : State).IN_LEN.toNat := by decide

/-- The four clauses at the boundaries of PKT_PLEN and of the field widths, for capacity 2048. -/
theorem witness_FrameSerializeResult :
    (28 ≤ 2048 ∧ 2048 ≤ 2 ^ 24)
    ∧ ¬ (State.reset.PKT_PRESENT.ID = true ∧ State.reset.PKT_PRESENT.FLAGS = true)
    ∧ ((packet 0 0).PKT_PRESENT.ID = true ∧ (packet 0 0).PKT_PRESENT.FLAGS = true)
    ∧ 2048 - 28 < ({ packet 0 0 with PKT_PLEN := 2021 } : State).PKT_PLEN.toNat
    ∧ ({ packet 0 0 with PKT_PLEN := 2020 } : State).PKT_PLEN.toNat ≤ 2048 - 28
    ∧ ({ packet 0x10000 0 with CTRL := { STRICT := true } } : State).CTRL.STRICT = true
    ∧ 2 ^ 16 ≤ ({ packet 0x10000 0 with CTRL := { STRICT := true } } : State).PKT_ID.toNat
    ∧ (packet 0 0).CTRL.STRICT = false := by decide

theorem witness_AbsentFieldsEncodeAsZero :
    ((packet 7 1).PKT_PRESENT.ID = true ∧ (packet 7 1).PKT_PRESENT.FLAGS = true)
    ∧ ((packet 7 1).PKT_REQ = 0 ∧ (packet 7 1).PKT_RSP = 0 ∧ (packet 7 1).PKT_DWS = 0 ∧ (packet 7 1).PKT_DWE = 0
      ∧ (packet 7 1).PKT_PLEN = 0)
    ∧ (packet 7 1).CTRL.STRICT = false
    ∧ ¬ (State.reset.PKT_PRESENT.ID = true ∧ State.reset.PKT_PRESENT.FLAGS = true) := by decide

/-- A packet that fits, and a copy of OBUF in IBUF after serializing it. -/
theorem witness_SerializeThenParseKeepsThePacket :
    ((packet 0xFFFF 0xFF).PKT_PRESENT = { ID := true, FLAGS := true } ∧ (packet 0xFFFF 0xFF).PKT_ID.toNat < 2 ^ 16
      ∧ (packet 0xFFFF 0xFF).PKT_REQ.toNat < 2 ^ 48 ∧ (packet 0xFFFF 0xFF).PKT_RSP.toNat < 2 ^ 48
      ∧ (packet 0xFFFF 0xFF).PKT_DWS.toNat < 2 ^ 48 ∧ (packet 0xFFFF 0xFF).PKT_DWE.toNat < 2 ^ 48
      ∧ (packet 0xFFFF 0xFF).PKT_PLEN.toNat ≤ Config.PAYLOAD_MAX)
    ∧ ∃ t, exec .frameSerialize (packet 0xFFFF 0xFF) = .next t
        ∧ ∀ k, k < t.OUT_LEN.toNat →
            bufRead .IBUF k { t with IBUF := t.OBUF, IN_LEN := t.OUT_LEN } = bufRead .OBUF k t := by
  refine ⟨⟨by decide, by decide, by decide, by decide, by decide, by decide, Nat.zero_le _⟩, _, rfl, fun k hk => ?_⟩
  have h : frameSerializeCommand Config.FRAME_MAX (packet 0xFFFF 0xFF)
      = complete 0x4 none (storeFrame (packetFrame (packet 0xFFFF 0xFF)) (packet 0xFFFF 0xFF)) := by
    have hl : ¬ Config.payloadMax Config.FRAME_MAX < payloadLength (packet 0xFFFF 0xFF) := Nat.not_lt.2 (Nat.zero_le _)
    rw [frameSerializeCommand, if_neg (by decide), if_neg hl, if_neg (by decide)]
  rw [h] at hk ⊢
  have hk : k < 28 := hk
  interval_cases k <;> rfl

/-- The largest length every capacity holds, and the shortest frame under the lenient policy. -/
theorem witness_ParseThenSerializeKeepsTheFrame :
    (({ State.reset with IN_LEN := 28 } : State).IN_LEN.toNat ≤ Config.FRAME_MAX
      ∧ 28 ≤ ({ State.reset with IN_LEN := 28 } : State).IN_LEN.toNat)
    ∧ State.reset.IN_LEN.toNat ≤ Config.FRAME_MAX ∧ State.reset.CTRL.STRICT = false :=
  ⟨⟨Laws.frameMax_ge, by decide⟩, Nat.zero_le _, by decide⟩

theorem witness_AddrDecodeResult :
    (1 : BitVec 16) ≠ 0 ∧ ((0 : BitVec 16) = 0 ∧ (1 : BitVec 16) ≠ 0) := by decide

theorem witness_AddrDecodeIgnoresHighBits :
    (0xFFFF000100020003 : Word64).toNat % 2 ^ 48
      = ({ State.reset with ADDR_IN := 0x000100020003 } : State).ADDR_IN.toNat % 2 ^ 48
    ∧ ∃ t, exec .frameParse State.reset = .next t ∧ t.STATUS.ERR = false := ⟨by decide, _, rfl, by decide⟩

theorem witness_AddressDecomposition : addrDecode 0x000100020003 = (1, 2, 3) := by decide

theorem witness_EveryCommandCompletes : Instr.nop ≠ .clear ∧ (6 : BitVec 4) ≠ 0 ∧ (6 : BitVec 4).toNat ≤ 6 := by decide

theorem witness_ErrorsChangeStatusOnly :
    exec .reserved7 State.reset = .next (raise 0x7 .BAD_CMD State.reset)
    ∧ (raise 0x7 .BAD_CMD State.reset).STATUS.ERR = true := ⟨rfl, rfl⟩

theorem witness_StickyErrorStaysUntilClearOrReset :
    step (raise 0x7 .BAD_CMD State.reset) = .next (raise 0x7 .BAD_CMD State.reset)
    ∧ (raise 0x7 .BAD_CMD State.reset).STATUS.ERR_STICKY = true := ⟨rfl, rfl⟩

theorem witness_StrictBitIsReadByFrameCommandsOnly :
    Instr.nop ≠ .frameParse ∧ Instr.nop ≠ .frameSerialize ∧ Instr.nop ≠ .clear := by decide

/-- Memories that agree below the length and differ at it. -/
theorem witness_CommandsReadBuffersBelowTheirLengths :
    (∀ k, k < (framed [5]).IN_LEN.toNat →
      bufRead .IBUF k { framed [5] with IBUF := [(0, 5), (1, 7)] } = bufRead .IBUF k (framed [5]))
    ∧ ∀ k, k < ({ packet 0 0 with PKT_PLEN := 1, PBUF := [(0, 5)] } : State).PKT_PLEN.toNat →
      bufRead .PBUF k { packet 0 0 with PKT_PLEN := 1, PBUF := [(0, 5), (1, 7)] }
        = bufRead .PBUF k { packet 0 0 with PKT_PLEN := 1, PBUF := [(0, 5)] } := by
  constructor
  · intro k hk
    have hk : k < 1 := hk
    interval_cases k; rfl
  · intro k hk
    have hk : k < 1 := hk
    interval_cases k; rfl

theorem witness_CommandsWriteBuffersBelowTheirLengths :
    (∃ t, exec .frameParse State.reset = .next t) ∧ (∃ t, exec .frameSerialize (packet 0 0) = .next t)
    ∧ Instr.nop ≠ .frameParse ∧ Instr.nop ≠ .frameSerialize := ⟨⟨_, rfl⟩, ⟨_, rfl⟩, by decide, by decide⟩

/-- Every register has a state in which the host is about to write it (43_control.md R108). -/
theorem witness_RegisterWriteEffects :
    (∀ r ∈ registerMap, (pending (wr r 0xFFFFFFFFFFFFFFFF)).inputs
      = .access (.write r.offset 8 0xFFFFFFFFFFFFFFFF) :: [])
    ∧ (¬ (0x0B0 ≤ 0x0A8 ∧ 0x0B0 % 8 = 0) ∧ ¬ (0x024 ≤ 0x0A8 ∧ 0x024 % 8 = 0)) := by decide

/-- Every register has a state in which the host is about to read it (43_control.md R109). -/
theorem witness_RegisterReadValues :
    (∀ r ∈ registerMap, (pending (rd r)).inputs = .access (.read r.offset 8) :: [])
    ∧ (¬ (0x0B0 ≤ 0x0A8 ∧ 0x0B0 % 8 = 0) ∧ ¬ (0x024 ≤ 0x0A8 ∧ 0x024 % 8 = 0)) := by decide

/-- The first and the last byte of IBUF and OBUF, and of PBUF, for capacity 2048; the last of IBUF for capacity 2^24; and
the first index above each buffer. -/
theorem witness_BufferByteWrites :
    28 ≤ 2048 ∧ 2048 ≤ 2 ^ 24 ∧ 0 < 2048 ∧ 2047 < 2048 ∧ 0 < 2048 - 28 ∧ 2019 < 2048 - 28
    ∧ 2 ^ 24 - 1 < 2 ^ 24 ∧ (2048 ≤ 2048 ∧ 2048 < 2 ^ 24) ∧ (2048 - 28 ≤ 2020 ∧ 2020 < 2 ^ 24) := by decide

theorem witness_ReadReturnsTheLatestWrite :
    (State.reset.withInputs [wr .FLG_IN 5, rd .FLG_IN]).inputs = .access (.write 0x020 8 5) :: .access (.read 0x020 8) :: []
    ∧ 28 ≤ 2048 ∧ 2048 ≤ 2 ^ 24 ∧ 2047 < 2048 ∧ 2019 < 2048 - 28 := by decide

theorem witness_BufferByteReads :
    28 ≤ 28 ∧ 28 ≤ 2 ^ 24 ∧ 27 < 28 ∧ 2047 < 2048 ∧ 2019 < 2048 - 28 := by decide

/-- An admitted byte access at the end of IBUF and one past it that is not admitted. -/
theorem witness_RefusedExactlyWhenNotAdmitted :
    AccessAdmitted 2048 (.read 0x010007FF 1) ∧ ¬ AccessAdmitted 2048 (.read 0x01000800 1)
    ∧ hostAccess 2048 (.read 0x01000800 1) State.reset = .refused .bufferIndexOutOfRange := by
  refine ⟨.inr ⟨rfl, .IBUF, 2047, by decide, by decide⟩, ?_, rfl⟩
  rintro (⟨h, -⟩ | ⟨-, B, k, h, hk⟩)
  · exact absurd h (by decide)
  · cases B <;> simp only [windowBase, bufSize, Config.payloadMax, Config.HDR_BYTES] at h hk <;> omega

theorem witness_WhoChangesThePacketRegisters : ∃ t, step (pendingCmd 3) = .next t ∧ t.PKT_PRESENT ≠ State.reset.PKT_PRESENT :=
  ⟨_, rfl, by decide⟩

theorem witness_WhoChangesTheResultRegisters : ∃ t, step (pendingCmd 7) = .next t ∧ t.STATUS ≠ State.reset.STATUS :=
  ⟨_, rfl, by decide⟩

theorem witness_ResetPulseSetsEveryRegister : (pending .reset).inputs = .reset :: [] := by decide

/-- The invariant holds where a command is pending, and the step answers a next state. -/
theorem witness_EveryStepKeepsTheInvariant : Inv (pendingCmd 3) ∧ ∃ t, step (pendingCmd 3) = .next t := by
  refine ⟨⟨?_, ?_, ?_, ?_, ?_, ?_, ?_⟩, _, rfl⟩
  · exact ⟨List.Pairwise.nil, fun c hc => absurd hc List.not_mem_nil⟩
  · exact ⟨List.Pairwise.nil, fun c hc => absurd hc List.not_mem_nil⟩
  · exact ⟨List.Pairwise.nil, fun c hc => absurd hc List.not_mem_nil⟩
  · exact ⟨.inl rfl, by decide, by decide, by decide⟩
  · exact (by decide : State.reset.ADDR_TGT = targetSelect 0 0 0)
  · exact (by decide : (0 : Word64).toNat < 2 ^ 16)
  · exact .inl rfl

end Sys2Proof.Tests
end

section
/-! PROOFS. What every command and every step can do, said once, and the statements of 10_state.md: who reads and who
writes each part of the state, and the invariant that every step keeps. -/

namespace Sys2Proof.Proofs

open Sys2Proof.Machine Sys2Proof.Safety Sys2Proof.Laws

/-! ### The command word of a decoded command -/

theorem decodeOpcode_opcode_reservedBits :
    ∀ op : BitVec 4, (decodeOpcode op).opcode = op ∧ (decodeOpcode op).reservedBits = 0 := by decide

@[simp] theorem decode_opcode (w : Word64) : (decode w).opcode = opcodeField w := by
  unfold decode
  split
  · exact (decodeOpcode_opcode_reservedBits _).1
  · rfl

@[simp] theorem decode_reservedBits (w : Word64) : (decode w).reservedBits = reservedField w := by
  unfold decode
  split
  next h => rw [(decodeOpcode_opcode_reservedBits _).2, h]
  next => rfl

theorem reservedField_append_opcodeField (w : Word64) : reservedField w ++ opcodeField w = w :=
  BitVec.extractLsb'_append_extractLsb'_eq_extractLsb' rfl |>.trans BitVec.extractLsb'_eq_self

/-- No bit of a command word is lost (30_encoding.md R67, R71). -/
@[simp] theorem encode_decode (w : Word64) : encode (decode w) = w := by
  rw [encode, decode_reservedBits, decode_opcode]
  exact reservedField_append_opcodeField w

theorem eq_encode_of_decode_eq {w : Word64} {i : Instr} (h : decode w = i) : w = encode i := by
  rw [← h, encode_decode]

/-! ### What a command does: its error, or its writes -/

/-- The error that command `i` raises in state `s`, the causes in the order of 60_exceptions.md R117. -/
def commandError (i : Instr) (s : State) : Option ErrorCause :=
  match i with
  | .nop | .flagsPack | .addrDecode | .clear => none
  | .flagsUnpack => if 0xFFFF < (wordOperand s).toNat then some .FLAGS_RANGE else none
  | .frameParse =>
    if Config.FRAME_MAX < frameLength s then some .LEN_RANGE
    else if strictPolicy s = true ∧ frameLength s < Config.HDR_BYTES then some .FRAME_SHORT
    else none
  | .frameSerialize =>
    if packetFieldMissing s = true then some .MISSING_FIELD
    else if Config.payloadMax Config.FRAME_MAX < payloadLength s then some .LEN_RANGE
    else if strictPolicy s = true ∧ packetFieldTooWide s = true then some .FIELD_OVERFLOW
    else none
  | _ => some .BAD_CMD

/-- All that command `i` writes but its completion, where it raises no error. What CLEAR writes to STATUS itself
(43_control.md R106) is here the reset value, on which the completion of every command gives `statusAfterClear`. -/
def commandWrites (i : Instr) (s : State) : State :=
  match i with
  | .flagsPack => s.setFlagsResult ((flagsPack (flagsOperand s)).setWidth 64)
  | .flagsUnpack => s.setFlagsResult ((flagsUnpack ((wordOperand s).setWidth 16)).setWidth 64)
  | .frameParse => loadPacket (frameParse (frameOperand s)) s
  | .frameSerialize => storeFrame (packetFrame s) s
  | .addrDecode =>
    let ids := addrDecode (addressOperand s)
    s.setAddressResult ids.1 ids.2.1 ids.2.2 (targetSelect ids.1 ids.2.1 ids.2.2)
  | .clear => (clearRegisters s).setStatus State.reset.STATUS
  | _ => s

/-- The state after command `i`: its error raised, or its writes made and completed (43_control.md R112, R113). -/
def commandResult (i : Instr) (s : State) : State :=
  match commandError i s with
  | some e => raise i.opcode e s
  | none => complete i.opcode none (commandWrites i s)

theorem commandResult_of_error {i : Instr} {s : State} {e : ErrorCause} (h : commandError i s = some e) :
    commandResult i s = raise i.opcode e s := by
  rw [commandResult, h]

theorem commandResult_of_no_error {i : Instr} {s : State} (h : commandError i s = none) :
    commandResult i s = complete i.opcode none (commandWrites i s) := by
  rw [commandResult, h]

theorem frameParseCommand_eq_commandResult (s : State) :
    frameParseCommand Config.FRAME_MAX s = commandResult .frameParse s := by
  simp only [frameParseCommand, commandResult, commandError]
  split_ifs <;> rfl

theorem frameSerializeCommand_eq_commandResult (s : State) :
    frameSerializeCommand Config.FRAME_MAX s = commandResult .frameSerialize s := by
  simp only [frameSerializeCommand, commandResult, commandError]
  split_ifs <;> rfl

theorem execFlagsUnpack_eq_commandResult (s : State) :
    execFlagsUnpack s = .next (commandResult .flagsUnpack s) := by
  simp only [execFlagsUnpack, commandResult, commandError]
  split_ifs <;> rfl

/-- All that a command can do, in every state (43_control.md R112, R113). -/
theorem exec_eq_commandResult (i : Instr) (s : State) : exec i s = .next (commandResult i s) := by
  cases i with
  | flagsUnpack => exact execFlagsUnpack_eq_commandResult s
  | frameParse => exact congrArg Host.Outcome.next (frameParseCommand_eq_commandResult s)
  | frameSerialize => exact congrArg Host.Outcome.next (frameSerializeCommand_eq_commandResult s)
  | _ => rfl

theorem eq_commandResult_of_exec {i : Instr} {s t : State} (h : exec i s = .next t) : t = commandResult i s := by
  rw [exec_eq_commandResult] at h
  exact (Host.Outcome.next.inj h).symm

/-- A command raises only the errors that 60_exceptions.md R115 lists for its opcode. -/
theorem codeRaisedBy_of_commandError {i : Instr} {s : State} {e : ErrorCause} (h : commandError i s = some e) :
    CodeRaisedBy e.code i.opcode := by
  cases i with
  | nop | flagsPack | addrDecode | clear => cases h
  | flagsUnpack =>
    simp only [commandError] at h
    split_ifs at h
    cases h
    exact .inr (.inl ⟨rfl, rfl⟩)
  | frameParse =>
    simp only [commandError] at h
    split_ifs at h <;> cases h
    · exact .inr (.inr (.inl ⟨rfl, .inl rfl⟩))
    · exact .inr (.inr (.inr (.inr (.inl ⟨rfl, rfl⟩))))
  | frameSerialize =>
    simp only [commandError] at h
    split_ifs at h <;> cases h
    · exact .inr (.inr (.inr (.inl ⟨rfl, rfl⟩)))
    · exact .inr (.inr (.inl ⟨rfl, .inr rfl⟩))
    · exact .inr (.inr (.inr (.inr (.inr (.inl ⟨rfl, rfl⟩)))))
  | _ =>
    cases h
    exact .inr (.inr (.inr (.inr (.inr (.inr rfl)))))

theorem frameLength_le_of_no_error {s : State} (h : commandError .frameParse s = none) :
    frameLength s ≤ Config.FRAME_MAX := by
  simp only [commandError] at h
  split_ifs at h with hlen
  exact Nat.le_of_not_lt hlen

theorem payloadLength_le_of_no_error {s : State} (h : commandError .frameSerialize s = none) :
    28 + payloadLength s ≤ Config.FRAME_MAX := by
  by_contra hlong
  have hmax : Config.payloadMax Config.FRAME_MAX < payloadLength s := by
    have := frameMax_ge
    simp only [Config.payloadMax, Config.HDR_BYTES]
    omega
  simp only [commandError, if_pos hmax] at h
  split_ifs at h

@[simp] theorem packetFrame_length (s : State) : (packetFrame s).length = 28 + payloadLength s := by
  simp only [packetFrame, frameSerialize, payloadOperand, List.length_append, split_length, bufBytes_length]

@[simp] theorem frameParse_payload_length (b : List Byte) : (frameParse b).payload.length = b.length - 28 := by
  simp [frameParse]

@[simp] theorem frameOperand_length (s : State) : (frameOperand s).length = frameLength s := by
  simp [frameOperand]

/-! ### What a command leaves unchanged -/

/-- The four results of the address decoder are those of `s` (10_state.md R21 to R24). -/
def SameAddressResult (s t : State) : Prop :=
  t.ADDR_SVC = s.ADDR_SVC ∧ t.ADDR_CMP = s.ADDR_CMP ∧ t.ADDR_RES = s.ADDR_RES ∧ t.ADDR_TGT = s.ADDR_TGT

/-- Every result register and STATUS are those of `s`. -/
structure SameResults (s t : State) : Prop where
  status : t.STATUS = s.STATUS
  flags : t.FLG_OUT = s.FLG_OUT
  address : SameAddressResult s t
  frameLength : t.OUT_LEN = s.OUT_LEN

/-- What a transaction leaves as it was once it is taken, it leaves as it was before. -/
theorem SameResults.of_withInputs {s t : State} {rest : List Input} (h : SameResults (s.withInputs rest) t) :
    SameResults s t :=
  ⟨h.status, h.flags, h.address, h.frameLength⟩

theorem commandWrites_STATUS {i : Instr} (hclear : i ≠ .clear) (s : State) :
    (commandWrites i s).STATUS = s.STATUS := by
  cases i with
  | clear => exact absurd rfl hclear
  | _ => simp [commandWrites, loadPacket, storeFrame]

theorem commandWrites_FLG_OUT {i : Instr} (hpack : i ≠ .flagsPack) (hunpack : i ≠ .flagsUnpack)
    (hclear : i ≠ .clear) (s : State) : (commandWrites i s).FLG_OUT = s.FLG_OUT := by
  cases i with
  | flagsPack => exact absurd rfl hpack
  | flagsUnpack => exact absurd rfl hunpack
  | clear => exact absurd rfl hclear
  | _ => simp [commandWrites, loadPacket, storeFrame]

theorem commandWrites_sameAddressResult {i : Instr} (hdecode : i ≠ .addrDecode) (hclear : i ≠ .clear) (s : State) :
    SameAddressResult s (commandWrites i s) := by
  cases i with
  | addrDecode => exact absurd rfl hdecode
  | clear => exact absurd rfl hclear
  | _ => simp [SameAddressResult, commandWrites, loadPacket, storeFrame]

theorem commandWrites_OUT_LEN {i : Instr} (hserialize : i ≠ .frameSerialize) (hclear : i ≠ .clear) (s : State) :
    (commandWrites i s).OUT_LEN = s.OUT_LEN := by
  cases i with
  | frameSerialize => exact absurd rfl hserialize
  | clear => exact absurd rfl hclear
  | _ => simp [commandWrites, loadPacket]

theorem commandWrites_CTRL {i : Instr} (hclear : i ≠ .clear) (s : State) :
    (commandWrites i s).CTRL = s.CTRL := by
  cases i with
  | clear => exact absurd rfl hclear
  | _ => simp [commandWrites, loadPacket, storeFrame]

/-- No command writes IBUF (10_state.md R30). -/
theorem commandWrites_IBUF (i : Instr) (s : State) : (commandWrites i s).IBUF = s.IBUF := by
  cases i with
  | _ => simp [commandWrites, loadPacket, storeFrame]

/-- What an error leaves unchanged and the writes of `i` leave unchanged, `i` leaves unchanged: `f` reads a part of the
state that is not STATUS. -/
theorem commandResult_unchanged {α : Type} (f : State → α) (hf : ∀ u st, f (State.setStatus u st) = f u)
    {i : Instr} {s : State} (hw : f (commandWrites i s) = f s) : f (commandResult i s) = f s := by
  cases he : commandError i s with
  | some e => rw [commandResult_of_error he, raise, complete, hf]
  | none => rw [commandResult_of_no_error he, complete, hf, hw]

theorem commandResult_FLG_OUT {i : Instr} (hpack : i ≠ .flagsPack) (hunpack : i ≠ .flagsUnpack)
    (hclear : i ≠ .clear) (s : State) : (commandResult i s).FLG_OUT = s.FLG_OUT :=
  commandResult_unchanged State.FLG_OUT (fun _ _ => rfl) (commandWrites_FLG_OUT hpack hunpack hclear s)

theorem commandResult_sameAddressResult {i : Instr} (hdecode : i ≠ .addrDecode) (hclear : i ≠ .clear) (s : State) :
    SameAddressResult s (commandResult i s) := by
  obtain ⟨hsvc, hcmp, hres, htgt⟩ := commandWrites_sameAddressResult hdecode hclear s
  exact ⟨commandResult_unchanged State.ADDR_SVC (fun _ _ => rfl) hsvc,
    commandResult_unchanged State.ADDR_CMP (fun _ _ => rfl) hcmp,
    commandResult_unchanged State.ADDR_RES (fun _ _ => rfl) hres,
    commandResult_unchanged State.ADDR_TGT (fun _ _ => rfl) htgt⟩

theorem commandResult_OUT_LEN {i : Instr} (hserialize : i ≠ .frameSerialize) (hclear : i ≠ .clear) (s : State) :
    (commandResult i s).OUT_LEN = s.OUT_LEN :=
  commandResult_unchanged State.OUT_LEN (fun _ _ => rfl) (commandWrites_OUT_LEN hserialize hclear s)

theorem commandResult_CTRL {i : Instr} (hclear : i ≠ .clear) (s : State) : (commandResult i s).CTRL = s.CTRL :=
  commandResult_unchanged State.CTRL (fun _ _ => rfl) (commandWrites_CTRL hclear s)

@[simp] theorem commandResult_IBUF (i : Instr) (s : State) : (commandResult i s).IBUF = s.IBUF :=
  commandResult_unchanged State.IBUF (fun _ _ => rfl) (commandWrites_IBUF i s)

/-- STATUS after a command is what `complete` leaves in it (43_control.md R113). -/
theorem commandResult_STATUS {i : Instr} (hclear : i ≠ .clear) (s : State) :
    (commandResult i s).STATUS = statusAfter i.opcode (commandError i s) s.STATUS := by
  cases he : commandError i s with
  | some e => rw [commandResult_of_error he, raise, complete_STATUS]
  | none => rw [commandResult_of_no_error he, complete_STATUS, commandWrites_STATUS hclear]

/-! ### What a host write leaves unchanged -/

theorem regWrite_sameResults (r : Reg) (v : Word64) (s : State) : SameResults s (regWrite r v s) := by
  cases r <;> exact ⟨rfl, rfl, ⟨rfl, rfl, rfl, rfl⟩, rfl⟩

theorem hostBufWrite_sameResults (B : Buffer) (k : Nat) (b : Byte) (s : State) :
    SameResults s (hostBufWrite B k b s) := by
  cases B <;> exact ⟨rfl, rfl, ⟨rfl, rfl, rfl, rfl⟩, rfl⟩

/-! ### What a step can do -/

/-- All that a step from `s` to `t` can be (20_memory.md R52; 43_control.md R108 to R112; 60_exceptions.md R128). -/
inductive Transition (s : State) : State → Prop where
  | idle : s.inputs = [] → Transition s s
  | resetPulse (rest : List Input) : s.inputs = .reset :: rest → Transition s (resetBlock (s.withInputs rest))
  | command (v : Word64) (rest : List Input) : s.inputs = .access (.write 0x000 8 v) :: rest →
      Transition s (commandResult (decode v) (s.withInputs rest))
  | registerWrite (r : Reg) (v : Word64) (rest : List Input) : r ≠ .CMD →
      s.inputs = .access (.write r.offset 8 v) :: rest → Transition s (regWrite r v (s.withInputs rest))
  | byteWrite (B : Buffer) (k : Nat) (v : Word64) (rest : List Input) : k < bufSize Config.FRAME_MAX B →
      s.inputs = .access (.write (windowBase B + k) 1 v) :: rest →
      Transition s (hostBufWrite B k (v.setWidth 8) (s.withInputs rest))
  | read (offset size : Nat) (v : Word64) (rest : List Input) :
      s.inputs = .access (.read offset size) :: rest → Transition s ((s.withInputs rest).respond v)

theorem transition_of_hostAccess {s t : State} {a : Access} {rest : List Input} (hin : s.inputs = .access a :: rest)
    (h : hostAccess Config.FRAME_MAX a (s.withInputs rest) = .next t) : Transition s t := by
  rcases hostAccess_cases Config.FRAME_MAX a (s.withInputs rest) with
    ⟨r, hr⟩ | ⟨offset, size, data, rfl, hloc, hr⟩ | ⟨offset, size, data, r, rfl, hne, hloc, hr⟩
    | ⟨offset, size, data, B, k, rfl, -, hloc, hr⟩ | ⟨offset, size, p, rfl, -, hr⟩
  · rw [hr] at h; cases h
  · obtain ⟨r, hp, rfl, rfl⟩ | ⟨B, k, hp, -⟩ := locate_eq_ok hloc
    · cases hp
      rw [hr] at h
      rw [eq_commandResult_of_exec h]
      exact .command data rest hin
    · cases hp
  · obtain ⟨r', hp, rfl, rfl⟩ | ⟨B, k, hp, -⟩ := locate_eq_ok hloc
    · cases hp
      rw [hr] at h
      cases h
      exact .registerWrite r data rest hne hin
    · cases hp
  · obtain ⟨r, hp, -⟩ | ⟨B', k', hp, rfl, rfl, hk⟩ := locate_eq_ok hloc
    · cases hp
    · cases hp
      rw [hr] at h
      cases h
      exact .byteWrite B k data rest hk hin
  · rw [hr] at h
    cases h
    exact .read offset size _ rest hin

/-- Every step that answers a next state is one of the transitions. -/
theorem transition_of_step {s t : State} (h : step s = .next t) : Transition s t := by
  rcases step_cases s with ⟨hin, hs⟩ | ⟨rest, hin, hs⟩ | ⟨a, rest, hin, hs⟩
  · rw [hs] at h; cases h; exact .idle hin
  · rw [hs] at h; cases h; exact .resetPulse rest hin
  · rw [hs] at h; exact transition_of_hostAccess hin h

/-! ### ERR_STICKY and the result registers -/

/-- No transition but a reset pulse and a command changes a result or STATUS. -/
theorem sameResults_or_reset_or_command {s t : State} (h : Transition s t) :
    SameResults s t
    ∨ (∃ rest, s.inputs = .reset :: rest)
    ∨ (∃ v rest, s.inputs = .access (.write 0x000 8 v) :: rest
        ∧ t = commandResult (decode v) (s.withInputs rest)) := by
  cases h with
  | idle => exact .inl ⟨rfl, rfl, ⟨rfl, rfl, rfl, rfl⟩, rfl⟩
  | resetPulse rest hin => exact .inr (.inl ⟨rest, hin⟩)
  | command v rest hin => exact .inr (.inr ⟨v, rest, hin, rfl⟩)
  | registerWrite r v rest => exact .inl (regWrite_sameResults r v (s.withInputs rest)).of_withInputs
  | byteWrite B k v rest => exact .inl (hostBufWrite_sameResults B k _ (s.withInputs rest)).of_withInputs
  | read offset size v rest => exact .inl ⟨rfl, rfl, ⟨rfl, rfl, rfl, rfl⟩, rfl⟩

/-- Settles O31: only CLEAR and the reset input take ERR_STICKY back (10_state.md R34). -/
theorem stickyErrorStaysUntilClearOrReset : Obligations.StickyErrorStaysUntilClearOrReset := by
  intro s t hstep hsticky
  rcases sameResults_or_reset_or_command (transition_of_step hstep) with
    ⟨hstatus, -⟩ | hreset | ⟨v, rest, hin, rfl⟩
  · exact .inl (hstatus ▸ hsticky)
  · exact .inr (.inl hreset)
  · by_cases hclear : decode v = .clear
    · cases eq_encode_of_decode_eq hclear
      exact .inr (.inr ⟨rest, hin⟩)
    · left
      rw [commandResult_STATUS hclear, statusAfter_ERR_STICKY, withInputs_STATUS, hsticky, Bool.true_or]

/-- Settles O42: a host write, a read and an idle step change no result; a command changes the results its rule
names. -/
theorem whoChangesTheResultRegisters : Obligations.WhoChangesTheResultRegisters := by
  intro s t hstep
  rcases sameResults_or_reset_or_command (transition_of_step hstep) with
    ⟨hstatus, hflags, haddress, hlength⟩ | hreset | ⟨v, rest, hin, rfl⟩
  · exact .inr (.inr ⟨.inl hstatus, .inl hflags, .inl haddress, .inl hlength⟩)
  · exact .inl hreset
  · have issued {i : Instr} (hi : decode v = i) : s.inputs = .access (.write 0x000 8 (encode i)) :: rest := by
      rwa [← eq_encode_of_decode_eq hi]
    by_cases hclear : decode v = .clear
    · exact .inr (.inl ⟨rest, issued hclear⟩)
    refine .inr (.inr ⟨.inr ⟨v, rest, hin⟩, ?flags, ?address, ?length⟩)
    case flags =>
      by_cases hpack : decode v = .flagsPack
      · exact .inr ⟨1, rest, .inl rfl, issued hpack⟩
      by_cases hunpack : decode v = .flagsUnpack
      · exact .inr ⟨2, rest, .inr rfl, issued hunpack⟩
      exact .inl (commandResult_FLG_OUT hpack hunpack hclear _)
    case address =>
      by_cases hdecode : decode v = .addrDecode
      · exact .inr ⟨rest, issued hdecode⟩
      exact .inl (commandResult_sameAddressResult hdecode hclear (s.withInputs rest))
    case length =>
      by_cases hserialize : decode v = .frameSerialize
      · exact .inr ⟨rest, issued hserialize⟩
      exact .inl (commandResult_OUT_LEN hserialize hclear _)

/-! ### What a command writes of the buffers -/

/-- Below which index command `i`, ending in state `t`, may have written buffer `B` (10_state.md R30). -/
def bytesWritten (i : Instr) (B : Buffer) (t : State) : Nat :=
  match i, B with
  | .frameParse, .PBUF => t.PKT_PLEN.toNat
  | .frameSerialize, .OBUF => t.OUT_LEN.toNat
  | _, _ => 0

theorem bufRead_loadPacket {p : Packet} {s : State} {B : Buffer} {k : Nat}
    (h : B ≠ .PBUF ∨ p.payload.length ≤ k) : bufRead B k (loadPacket p s) = bufRead B k s := by
  rw [loadPacket, bufRead_bufWriteBytes, if_neg, bufRead_setPacket]
  rintro ⟨hB, -, hk⟩
  rcases h with h | h
  · exact h hB
  · omega

theorem bufRead_storeFrame {frame : List Byte} {s : State} {B : Buffer} {k : Nat}
    (h : B ≠ .OBUF ∨ frame.length ≤ k) : bufRead B k (storeFrame frame s) = bufRead B k s := by
  rw [storeFrame, bufRead_setFrameLength, bufRead_bufWriteBytes, if_neg]
  rintro ⟨hB, -, hk⟩
  rcases h with h | h
  · exact h hB
  · omega

theorem loadPacket_PKT_PLEN {p : Packet} (s : State) (h : p.payload.length < 2 ^ 64) :
    (loadPacket p s).PKT_PLEN.toNat = p.payload.length := by
  simp only [loadPacket, bufWriteBytes_PKT_PLEN, setPacket_PKT_PLEN, BitVec.toNat_ofNat]
  exact Nat.mod_eq_of_lt h

theorem storeFrame_OUT_LEN {s : State} (frame : List Byte) (h : 28 + payloadLength s ≤ Config.FRAME_MAX) :
    (storeFrame frame s).OUT_LEN.toNat = 28 + payloadLength s := by
  have := frameMax_le
  simp only [storeFrame, setFrameLength_OUT_LEN, BitVec.toNat_ofNat]
  exact Nat.mod_eq_of_lt (by omega)

theorem bufRead_commandWrites {i : Instr} {s : State} {B : Buffer} {k : Nat} (hok : commandError i s = none)
    (hk : bytesWritten i B (commandWrites i s) ≤ k) : bufRead B k (commandWrites i s) = bufRead B k s := by
  cases i with
  | frameParse =>
    refine bufRead_loadPacket ?_
    by_cases hB : B = .PBUF
    · subst hB
      have hlen : (frameParse (frameOperand s)).payload.length < 2 ^ 64 := by
        have := s.IN_LEN.isLt
        rw [frameParse_payload_length, frameOperand_length, frameLength]
        omega
      exact .inr (loadPacket_PKT_PLEN s hlen ▸ hk)
    · exact .inl hB
  | frameSerialize =>
    refine bufRead_storeFrame ?_
    by_cases hB : B = .OBUF
    · subst hB
      rw [packetFrame_length, ← storeFrame_OUT_LEN (packetFrame s) (payloadLength_le_of_no_error hok)]
      exact .inr hk
    · exact .inl hB
  | _ => simp [commandWrites]

/-- A command writes no byte of a buffer but those below the new length of what it stores there. -/
theorem bufRead_commandResult {i : Instr} {s : State} {B : Buffer} {k : Nat}
    (hk : bytesWritten i B (commandResult i s) ≤ k) : bufRead B k (commandResult i s) = bufRead B k s := by
  cases he : commandError i s with
  | some e => rw [commandResult_of_error he, bufRead_raise]
  | none =>
    rw [commandResult_of_no_error he] at hk ⊢
    rw [bufRead_complete]
    exact bufRead_commandWrites he hk

/-- Settles O34: the length that bounds a buffer's writes is the one the command leaves. -/
theorem commandsWriteBuffersBelowTheirLengths : Obligations.CommandsWriteBuffersBelowTheirLengths := by
  intro i s t hexec
  cases eq_commandResult_of_exec hexec
  refine ⟨fun k => bufRead_commandResult ?ibuf, fun k hk => bufRead_commandResult ?pbuf,
    fun k hk => bufRead_commandResult ?obuf⟩
  case ibuf => cases i <;> exact Nat.zero_le k
  case pbuf =>
    cases i with
    | frameParse => exact hk.resolve_left (absurd rfl)
    | _ => exact Nat.zero_le k
  case obuf =>
    cases i with
    | frameSerialize => exact hk.resolve_left (absurd rfl)
    | _ => exact Nat.zero_le k

/-! ### What a command reads of the buffers -/

/-- Below which index command `i` reads buffer `B` in state `s` (10_state.md R30). -/
def bytesRead (i : Instr) (B : Buffer) (s : State) : Nat :=
  match i, B with
  | .frameParse, .IBUF => s.IN_LEN.toNat
  | .frameSerialize, .PBUF => s.PKT_PLEN.toNat
  | _, _ => 0

/-- `t` is `s` but for the contents of buffer `B`. -/
def SameBut (B : Buffer) (s t : State) : Prop := t = s.setMem B (t.mem B)

theorem SameBut.setMem (B : Buffer) (s : State) (m : Memory) : SameBut B s (s.setMem B m) := by
  cases B <;> rfl

theorem bufBytes_congr {B : Buffer} {lo n : Nat} {s t : State}
    (h : ∀ k, k < n → bufRead B (lo + k) s = bufRead B (lo + k) t) : bufBytes B lo n s = bufBytes B lo n t :=
  List.map_congr_left fun k hk => h k (List.mem_range.1 hk)

theorem bufRead_setMem_of_ne {B C : Buffer} (h : C ≠ B) (k : Nat) (s : State) (m : Memory) :
    bufRead C k (s.setMem B m) = bufRead C k s :=
  bufRead_congr (by rw [mem_setMem, if_neg h]) (setMem_epoch s B m) k

/-- The frame parsed depends on IBUF only below IN_LEN. -/
theorem frameOperand_setMem {B : Buffer} {s : State} {m : Memory}
    (h : ∀ k, k < bytesRead .frameParse B s → bufRead B k (s.setMem B m) = bufRead B k s) :
    frameOperand (s.setMem B m) = frameOperand s := by
  simp only [frameOperand, frameLength, setMem_IN_LEN]
  refine bufBytes_congr fun k hk => ?_
  rw [Nat.zero_add]
  by_cases hB : B = .IBUF
  · subst hB; exact h k hk
  · exact bufRead_setMem_of_ne (Ne.symm hB) k s m

/-- The frame serialized depends on PBUF only below PKT_PLEN. -/
theorem packetFrame_setMem {B : Buffer} {s : State} {m : Memory}
    (h : ∀ k, k < bytesRead .frameSerialize B s → bufRead B k (s.setMem B m) = bufRead B k s) :
    packetFrame (s.setMem B m) = packetFrame s := by
  have hpayload : payloadOperand (s.setMem B m) = payloadOperand s := by
    simp only [payloadOperand, payloadLength, setMem_PKT_PLEN]
    refine bufBytes_congr fun k hk => ?_
    rw [Nat.zero_add]
    by_cases hB : B = .PBUF
    · subst hB; exact h k hk
    · exact bufRead_setMem_of_ne (Ne.symm hB) k s m
  simp [packetFrame, hpayload]

theorem commandError_setMem (i : Instr) (B : Buffer) (s : State) (m : Memory) :
    commandError i (s.setMem B m) = commandError i s := by
  cases B <;> rfl

theorem loadPacket_sameBut (B : Buffer) (p : Packet) (s : State) (m : Memory) :
    SameBut B (loadPacket p s) (loadPacket p (s.setMem B m)) := by
  cases B <;> rfl

theorem storeFrame_sameBut (B : Buffer) (frame : List Byte) (s : State) (m : Memory) :
    SameBut B (storeFrame frame s) (storeFrame frame (s.setMem B m)) := by
  cases B <;> rfl

theorem commandWrites_sameBut {i : Instr} {B : Buffer} {s : State} {m : Memory}
    (h : ∀ k, k < bytesRead i B s → bufRead B k (s.setMem B m) = bufRead B k s) :
    SameBut B (commandWrites i s) (commandWrites i (s.setMem B m)) := by
  cases i with
  | frameParse =>
    simp only [commandWrites, frameOperand_setMem h]
    exact loadPacket_sameBut B _ s m
  | frameSerialize =>
    simp only [commandWrites, packetFrame_setMem h]
    exact storeFrame_sameBut B _ s m
  | _ => cases B <;> rfl

theorem SameBut.complete {B : Buffer} {s t : State} (h : SameBut B s t) (op : BitVec 4) (e : Option ErrorCause) :
    SameBut B (complete op e s) (complete op e t) := by
  rw [h]
  cases B <;> rfl

/-- Replacing bytes of a buffer that a command does not read changes nothing in its result but that buffer. -/
theorem commandResult_sameBut {i : Instr} {B : Buffer} {s : State} {m : Memory}
    (h : ∀ k, k < bytesRead i B s → bufRead B k (s.setMem B m) = bufRead B k s) :
    SameBut B (commandResult i s) (commandResult i (s.setMem B m)) := by
  have herr := commandError_setMem i B s m
  cases he : commandError i s with
  | some e =>
    rw [commandResult_of_error he, commandResult_of_error (herr.trans he)]
    exact (SameBut.setMem B s m).complete i.opcode (some e)
  | none =>
    rw [commandResult_of_no_error he, commandResult_of_no_error (herr.trans he)]
    exact (commandWrites_sameBut h).complete i.opcode none

/-- Settles O33, by comparing the results over two contents of each buffer in turn. -/
theorem commandsReadBuffersBelowTheirLengths : Obligations.CommandsReadBuffersBelowTheirLengths := by
  intro i s m
  refine ⟨commandResult i s, exec_eq_commandResult i s, fun h => ?ibuf,
    fun h => ⟨_, exec_eq_commandResult i _, ?pbuf⟩, ⟨_, exec_eq_commandResult i _, ?obuf⟩⟩
  case ibuf =>
    have hsame : SameBut .IBUF (commandResult i s) (commandResult i (s.setMem .IBUF m)) :=
      commandResult_sameBut fun k hk => by
        cases i with
        | frameParse => exact h rfl k hk
        | _ => exact absurd hk (Nat.not_lt_zero k)
    have hmem : (commandResult i (s.setMem .IBUF m)).mem .IBUF = m := commandResult_IBUF i _
    rw [SameBut, hmem] at hsame
    exact (exec_eq_commandResult i _).trans (congrArg Host.Outcome.next hsame)
  case pbuf =>
    refine commandResult_sameBut (B := .PBUF) (m := m) fun k hk => ?_
    cases i with
    | frameSerialize => exact h rfl k hk
    | _ => exact absurd hk (Nat.not_lt_zero k)
  case obuf =>
    refine commandResult_sameBut (B := .OBUF) (m := m) fun k hk => ?_
    cases i <;> exact absurd hk (Nat.not_lt_zero k)

/-! ### What a command reads of CTRL -/

/-- The state with the policy replaced. -/
def withCtrl (s : State) (c : Ctrl) : State := { s with CTRL := c }

theorem commandError_withCtrl {i : Instr} (hparse : i ≠ .frameParse) (hserialize : i ≠ .frameSerialize) (s : State)
    (c : Ctrl) : commandError i (withCtrl s c) = commandError i s := by
  cases i with
  | frameParse => exact absurd rfl hparse
  | frameSerialize => exact absurd rfl hserialize
  | _ => rfl

theorem commandWrites_withCtrl {i : Instr} (hparse : i ≠ .frameParse) (hserialize : i ≠ .frameSerialize) (s : State)
    (c : Ctrl) :
    commandWrites i (withCtrl s c) = withCtrl (commandWrites i s) (commandWrites i (withCtrl s c)).CTRL := by
  cases i with
  | frameParse => exact absurd rfl hparse
  | frameSerialize => exact absurd rfl hserialize
  | _ => rfl

theorem commandResult_withCtrl {i : Instr} (hparse : i ≠ .frameParse) (hserialize : i ≠ .frameSerialize) (s : State)
    (c : Ctrl) :
    commandResult i (withCtrl s c) = withCtrl (commandResult i s) (commandResult i (withCtrl s c)).CTRL := by
  have herr := commandError_withCtrl hparse hserialize s c
  cases he : commandError i s with
  | some e =>
    rw [commandResult_of_error he, commandResult_of_error (herr.trans he)]
    rfl
  | none =>
    rw [commandResult_of_no_error he, commandResult_of_no_error (herr.trans he),
      commandWrites_withCtrl hparse hserialize s c]
    rfl

/-- Settles O32, by comparing the results under two policies. -/
theorem strictBitIsReadByFrameCommandsOnly : Obligations.StrictBitIsReadByFrameCommandsOnly := by
  intro i s c hparse hserialize
  exact ⟨commandResult i s, commandResult i (withCtrl s c), exec_eq_commandResult i s, exec_eq_commandResult i _,
    commandResult_withCtrl hparse hserialize s c,
    fun hclear => ⟨commandResult_CTRL hclear s, commandResult_CTRL hclear (withCtrl s c)⟩⟩

/-! ### The invariant -/

theorem inv_buffer {s : State} (h : Inv s) (B : Buffer) : BufferOk B s := by
  cases B with
  | IBUF => exact h.ibuf
  | OBUF => exact h.obuf
  | PBUF => exact h.pbuf

theorem bufferOk_setMem {B C : Buffer} {s : State} {m : Memory} (h : BufferOk C s) (hwf : Memory.wf m)
    (hin : ∀ c ∈ m, c.1 < bufSize Config.FRAME_MAX B) : BufferOk C (s.setMem B m) := by
  rw [BufferOk, mem_setMem]
  split
  case isTrue hC => exact hC ▸ ⟨hwf, hin⟩
  case isFalse => exact h

theorem bufferOk_of_mem_eq_nil {B : Buffer} {s : State} (h : s.mem B = []) : BufferOk B s := by
  rw [BufferOk, h]
  exact ⟨List.Pairwise.nil, fun c hc => absurd hc List.not_mem_nil⟩

theorem errorCause_code_ne_zero (e : ErrorCause) : e.code ≠ 0 := by
  cases e <;> decide

/-- STATUS is consistent after every completion whose error its opcode may raise. -/
theorem statusOk_statusAfter {op : BitVec 4} {e : Option ErrorCause} (h : ∀ x ∈ e, CodeRaisedBy x.code op)
    (old : Status) : StatusOk (statusAfter op e old) := by
  cases e with
  | none => exact ⟨.inl rfl, by simp, by simp, by simp⟩
  | some x => exact ⟨h x rfl, by simpa using errorCause_code_ne_zero x, by simp, by simp⟩

theorem statusOk_reset : StatusOk State.reset.STATUS := ⟨.inl rfl, by decide, by decide, by decide⟩

theorem inv_complete {s : State} (h : Inv s) {op : BitVec 4} {e : Option ErrorCause}
    (he : ∀ x ∈ e, CodeRaisedBy x.code op) : Inv (complete op e s) where
  ibuf := h.ibuf
  obuf := h.obuf
  pbuf := h.pbuf
  status := statusOk_statusAfter he s.STATUS
  target := h.target
  flagsResult := h.flagsResult
  frameResult := h.frameResult

/-- A flags word or a flags value, zero-extended into FLG_OUT (40_flags_codec.md R79, R80). -/
theorem inv_setFlagsResult {s : State} (h : Inv s) {n : Nat} (hn : n ≤ 16) (v : BitVec n) :
    Inv (s.setFlagsResult (v.setWidth 64)) where
  ibuf := h.ibuf
  obuf := h.obuf
  pbuf := h.pbuf
  status := h.status
  target := h.target
  flagsResult :=
    calc (v.setWidth 64).toNat
      _ ≤ v.toNat := by rw [BitVec.toNat_setWidth]; exact Nat.mod_le _ _
      _ < 2 ^ n := v.isLt
      _ ≤ 2 ^ 16 := Nat.pow_le_pow_right (by decide) hn
  frameResult := h.frameResult

theorem inv_setAddressResult {s : State} (h : Inv s) (svc cmp res : BitVec 16) :
    Inv (s.setAddressResult svc cmp res (targetSelect svc cmp res)) where
  ibuf := h.ibuf
  obuf := h.obuf
  pbuf := h.pbuf
  status := h.status
  target := rfl
  flagsResult := h.flagsResult
  frameResult := h.frameResult

/-- A canonical memory that fits its buffer touches nothing else that the invariant speaks of. -/
theorem inv_setMem {s : State} (h : Inv s) {B : Buffer} {m : Memory} (hwf : Memory.wf m)
    (hin : ∀ c ∈ m, c.1 < bufSize Config.FRAME_MAX B) : Inv (s.setMem B m) where
  ibuf := bufferOk_setMem h.ibuf hwf hin
  obuf := bufferOk_setMem h.obuf hwf hin
  pbuf := bufferOk_setMem h.pbuf hwf hin
  status := by rw [setMem_STATUS]; exact h.status
  target := by simpa [TargetOk] using h.target
  flagsResult := by simpa [FlagsResultOk] using h.flagsResult
  frameResult := by simpa [FrameResultOk] using h.frameResult

theorem inv_bufWriteBytes {s : State} (h : Inv s) {B : Buffer} {bs : List Byte}
    (hlen : bs.length ≤ bufSize Config.FRAME_MAX B) : Inv (bufWriteBytes B 0 bs s) := by
  obtain ⟨hwf, hin⟩ := inv_buffer h B
  refine inv_setMem h (wf_writeBytes 0 bs hwf) fun c hc => ?_
  rcases mem_writeBytes hc with hnew | hold
  · omega
  · exact hin c hold

theorem inv_bufWrite {s : State} (h : Inv s) {B : Buffer} {k : Nat} (b : Byte)
    (hk : k < bufSize Config.FRAME_MAX B) : Inv (bufWrite B k b s) := by
  obtain ⟨hwf, hin⟩ := inv_buffer h B
  refine inv_setMem h (wf_write k b hwf) fun c hc => ?_
  rcases mem_write hc with rfl | hold
  · exact hk
  · exact hin c hold

theorem inv_setPacket {s : State} (h : Inv s) (p : Packet) : Inv (s.setPacket p) :=
  ⟨h.ibuf, h.obuf, h.pbuf, h.status, h.target, h.flagsResult, h.frameResult⟩

/-- The payload of an admitted frame fits PBUF (41_frame_codec.md R89). -/
theorem inv_loadPacket {s : State} (h : Inv s) {p : Packet} (hlen : p.payload.length ≤ Config.PAYLOAD_MAX) :
    Inv (loadPacket p s) :=
  inv_bufWriteBytes (B := .PBUF) (inv_setPacket h p) hlen

/-- A frame of 28 bytes and an admitted payload fits OBUF, and its length is a frame's (41_frame_codec.md R94). -/
theorem inv_storeFrame {s : State} (h : Inv s) {frame : List Byte} (hframe : frame.length = 28 + payloadLength s)
    (hfits : 28 + payloadLength s ≤ Config.FRAME_MAX) : Inv (storeFrame frame s) := by
  have hstored : Inv (bufWriteBytes .OBUF 0 frame s) := inv_bufWriteBytes h (hframe ▸ hfits)
  refine ⟨hstored.ibuf, hstored.obuf, hstored.pbuf, hstored.status, hstored.target, hstored.flagsResult, .inr ?_⟩
  rw [storeFrame_OUT_LEN frame hfits]
  exact ⟨Nat.le_add_right _ _, hfits⟩

theorem inv_clear {s : State} (h : Inv s) : Inv ((clearRegisters s).setStatus State.reset.STATUS) where
  ibuf := h.ibuf
  obuf := h.obuf
  pbuf := h.pbuf
  status := statusOk_reset
  target := (by decide : State.reset.ADDR_TGT = targetSelect 0 0 0)
  flagsResult := (by decide : (0 : Word64).toNat < 2 ^ 16)
  frameResult := .inl rfl

theorem inv_resetBlock (s : State) : Inv (resetBlock s) where
  ibuf := bufferOk_of_mem_eq_nil rfl
  obuf := bufferOk_of_mem_eq_nil rfl
  pbuf := bufferOk_of_mem_eq_nil rfl
  status := statusOk_reset
  target := (by decide : State.reset.ADDR_TGT = targetSelect 0 0 0)
  flagsResult := (by decide : (0 : Word64).toNat < 2 ^ 16)
  frameResult := .inl rfl

theorem inv_commandWrites {i : Instr} {s : State} (h : Inv s) (hok : commandError i s = none) :
    Inv (commandWrites i s) := by
  cases i with
  | flagsPack => exact inv_setFlagsResult h le_rfl _
  | flagsUnpack => exact inv_setFlagsResult h (by decide) _
  | frameParse =>
    refine inv_loadPacket h ?_
    rw [frameParse_payload_length, frameOperand_length]
    exact Nat.sub_le_sub_right (frameLength_le_of_no_error hok) 28
  | frameSerialize => exact inv_storeFrame h (packetFrame_length s) (payloadLength_le_of_no_error hok)
  | addrDecode => exact inv_setAddressResult h _ _ _
  | clear => exact inv_clear h
  | _ => exact h

theorem inv_commandResult (i : Instr) {s : State} (h : Inv s) : Inv (commandResult i s) := by
  cases he : commandError i s with
  | some e =>
    rw [commandResult_of_error he]
    refine inv_complete h fun x hx => ?_
    cases hx
    exact codeRaisedBy_of_commandError he
  | none =>
    rw [commandResult_of_no_error he]
    exact inv_complete (inv_commandWrites h he) fun x hx => nomatch hx

theorem inv_withInputs {s : State} (h : Inv s) (rest : List Input) : Inv (s.withInputs rest) :=
  ⟨h.ibuf, h.obuf, h.pbuf, h.status, h.target, h.flagsResult, h.frameResult⟩

theorem inv_respond {s : State} (h : Inv s) (v : Word64) : Inv (s.respond v) :=
  ⟨h.ibuf, h.obuf, h.pbuf, h.status, h.target, h.flagsResult, h.frameResult⟩

/-- The host writes no register that the invariant speaks of (43_control.md R108). -/
theorem inv_regWrite {s : State} (h : Inv s) (r : Reg) (v : Word64) : Inv (regWrite r v s) := by
  cases r <;> exact ⟨h.ibuf, h.obuf, h.pbuf, h.status, h.target, h.flagsResult, h.frameResult⟩

theorem inv_hostBufWrite {s : State} (h : Inv s) {B : Buffer} {k : Nat} (b : Byte)
    (hk : k < bufSize Config.FRAME_MAX B) : Inv (hostBufWrite B k b s) := by
  cases B with
  | IBUF => exact inv_bufWrite h b hk
  | OBUF => exact h
  | PBUF => exact inv_bufWrite h b hk

theorem inv_of_transition {s t : State} (h : Inv s) (ht : Transition s t) : Inv t := by
  cases ht with
  | idle => exact h
  | resetPulse rest => exact inv_resetBlock _
  | command v rest => exact inv_commandResult (decode v) (inv_withInputs h rest)
  | registerWrite r v rest => exact inv_regWrite (inv_withInputs h rest) r v
  | byteWrite B k v rest hk => exact inv_hostBufWrite (inv_withInputs h rest) _ hk
  | read offset size v rest => exact inv_respond (inv_withInputs h rest) v

/-- Settles O47, one lemma for each kind of transition. -/
theorem everyStepKeepsTheInvariant : Obligations.EveryStepKeepsTheInvariant :=
  fun _ _ h hstep => inv_of_transition h (transition_of_step hstep)

end Sys2Proof.Proofs
end

section
/-! PROOFS. The host port: what each admitted access and each kind of pending transaction does, said once, and the
statements of 20_memory.md: which accesses are admitted, what a step takes, and that a read sees the latest write. -/

namespace Sys2Proof.Proofs

open Sys2Proof.Machine Sys2Proof.Safety Sys2Proof.Laws

/-! ### What a step takes -/

theorem step_of_idle {s : State} (hin : s.inputs = []) : step s = .next s := by
  simp only [step, advance, hin]

theorem step_of_reset {s : State} {rest : List Input} (hin : s.inputs = .reset :: rest) :
    step s = .next (resetBlock (s.withInputs rest)) := by
  simp only [step, advance, hin, takeInput]

theorem step_of_access {s : State} {a : Access} {rest : List Input} (hin : s.inputs = .access a :: rest) :
    step s = hostAccess Config.FRAME_MAX a (s.withInputs rest) := by
  simp only [step, advance, hin, takeInput]

/-- Settles O7, one lemma for each kind of pending transaction. -/
theorem stepTakesTheFirstTransaction : Obligations.StepTakesTheFirstTransaction :=
  ⟨fun _ => step_of_idle, fun _ _ => step_of_reset, fun _ _ _ => step_of_access⟩

/-! ### The address map, both ways -/

theorem locate_eq_register_iff {frameMax offset size : Nat} {r : Reg} :
    locate frameMax offset size = .ok (.register r) ↔ offset = r.offset ∧ size = 8 := by
  constructor
  · intro h
    obtain ⟨r', hp, hoffset, hsize⟩ | ⟨B, k, hp, -⟩ := locate_eq_ok h
    · cases hp
      exact ⟨hoffset, hsize⟩
    · cases hp
  · rintro ⟨rfl, rfl⟩
    exact locate_register frameMax r

/-- The windows do not overlap, since no capacity exceeds the 2^24 addresses of a window (20_memory.md R44). -/
theorem locate_eq_byte_iff {frameMax offset size : Nat} (hmax : frameMax ≤ 2 ^ 24) {B : Buffer} {k : Nat} :
    locate frameMax offset size = .ok (.byte B k) ↔
      offset = windowBase B + k ∧ size = 1 ∧ k < bufSize frameMax B := by
  constructor
  · intro h
    obtain ⟨r, hp, -⟩ | ⟨B', k', hp, hoffset, hsize, hk⟩ := locate_eq_ok h
    · cases hp
    · cases hp
      exact ⟨hoffset, hsize, hk⟩
  · rintro ⟨rfl, rfl, hk⟩
    exact locate_byte hmax B hk

/-! ### What each admitted access does -/

theorem hostAccess_read_of_locate {frameMax offset size : Nat} {p : Place} (h : locate frameMax offset size = .ok p)
    (s : State) : hostAccess frameMax (.read offset size) s = .next (s.respond (readPlace p s)) := by
  simp only [hostAccess, h]

theorem hostAccess_write_of_locate {frameMax offset size : Nat} {p : Place} (h : locate frameMax offset size = .ok p)
    (v : Word64) (s : State) : hostAccess frameMax (.write offset size v) s = writePlace p v s := by
  simp only [hostAccess, h]

theorem hostAccess_read_register (frameMax : Nat) (r : Reg) (s : State) :
    hostAccess frameMax (.read r.offset 8) s = .next (s.respond (regRead r s)) :=
  hostAccess_read_of_locate (locate_register frameMax r) s

theorem hostAccess_write_CMD (frameMax : Nat) (v : Word64) (s : State) :
    hostAccess frameMax (.write (Reg.offset .CMD) 8 v) s = exec (decode v) s :=
  hostAccess_write_of_locate (locate_register frameMax .CMD) v s

theorem writePlace_register {r : Reg} (hr : r ≠ .CMD) (v : Word64) (s : State) :
    writePlace (.register r) v s = .next (regWrite r v s) := by
  cases r with
  | CMD => exact absurd rfl hr
  | _ => rfl

theorem hostAccess_write_register (frameMax : Nat) {r : Reg} (hr : r ≠ .CMD) (v : Word64) (s : State) :
    hostAccess frameMax (.write r.offset 8 v) s = .next (regWrite r v s) := by
  rw [hostAccess_write_of_locate (locate_register frameMax r), writePlace_register hr]

theorem hostAccess_read_byte {frameMax : Nat} (hmax : frameMax ≤ 2 ^ 24) {B : Buffer} {k : Nat}
    (hk : k < bufSize frameMax B) (s : State) :
    hostAccess frameMax (.read (windowBase B + k) 1) s = .next (s.respond ((bufRead B k s).setWidth 64)) :=
  hostAccess_read_of_locate (locate_byte hmax B hk) s

theorem hostAccess_write_byte {frameMax : Nat} (hmax : frameMax ≤ 2 ^ 24) {B : Buffer} {k : Nat}
    (hk : k < bufSize frameMax B) {v : Word64} (hv : v.toNat < 256) (s : State) :
    hostAccess frameMax (.write (windowBase B + k) 1 v) s = .next (hostBufWrite B k (v.setWidth 8) s) := by
  rw [hostAccess_write_of_locate (locate_byte hmax B hk), writePlace, if_pos hv]

/-! ### Which accesses are refused -/

/-- A write to CMD completes because every command does (43_control.md R112). -/
theorem hostAccess_completes_of_admitted {frameMax : Nat} (hmax : frameMax ≤ 2 ^ 24) {a : Access} (s : State)
    (h : AccessAdmitted frameMax a) : ∃ t, hostAccess frameMax a s = .next t := by
  cases a with
  | write offset size data =>
    obtain ⟨rfl, r, rfl⟩ | ⟨rfl, hdata, B, k, rfl, hk⟩ := h
    · by_cases hr : r = .CMD
      · rw [hr, hostAccess_write_CMD]
        exact ⟨_, exec_eq_commandResult (decode data) s⟩
      · exact ⟨_, hostAccess_write_register frameMax hr data s⟩
    · exact ⟨_, hostAccess_write_byte hmax hk hdata s⟩
  | read offset size =>
    obtain ⟨rfl, r, rfl⟩ | ⟨rfl, B, k, rfl, hk⟩ := h
    · exact ⟨_, hostAccess_read_register frameMax r s⟩
    · exact ⟨_, hostAccess_read_byte hmax hk s⟩

theorem hostAccess_refused_or_admitted {frameMax : Nat} (hmax : frameMax ≤ 2 ^ 24) (a : Access) (s : State) :
    (∃ r, hostAccess frameMax a s = .refused r) ∨ AccessAdmitted frameMax a := by
  rcases hostAccess_cases frameMax a s with
    hrefused | ⟨offset, size, data, rfl, hloc, -⟩ | ⟨offset, size, data, r, rfl, -, hloc, -⟩
    | ⟨offset, size, data, B, k, rfl, hdata, hloc, -⟩ | ⟨offset, size, p, rfl, hloc, -⟩
  · exact .inl hrefused
  · obtain ⟨hoffset, hsize⟩ := locate_eq_register_iff.1 hloc
    exact .inr (.inl ⟨hsize, _, hoffset⟩)
  · obtain ⟨hoffset, hsize⟩ := locate_eq_register_iff.1 hloc
    exact .inr (.inl ⟨hsize, r, hoffset⟩)
  · obtain ⟨hoffset, hsize, hk⟩ := (locate_eq_byte_iff hmax).1 hloc
    exact .inr (.inr ⟨hsize, hdata, B, k, hoffset, hk⟩)
  · cases p with
    | register r =>
      obtain ⟨hoffset, hsize⟩ := locate_eq_register_iff.1 hloc
      exact .inr (.inl ⟨hsize, r, hoffset⟩)
    | byte B k =>
      obtain ⟨hoffset, hsize, hk⟩ := (locate_eq_byte_iff hmax).1 hloc
      exact .inr (.inr ⟨hsize, B, k, hoffset, hk⟩)

/-- Settles O39: an access that is not refused is admitted by the address map, and an admitted one completes. -/
theorem refusedExactlyWhenNotAdmitted : Obligations.RefusedExactlyWhenNotAdmitted := by
  intro frameMax a s _ hmax
  have completes := hostAccess_completes_of_admitted (a := a) hmax s
  refine ⟨⟨?_, (hostAccess_refused_or_admitted hmax a s).resolve_right⟩, completes⟩
  rintro ⟨r, hrefused⟩ hadmitted
  obtain ⟨t, hnext⟩ := completes hadmitted
  cases hrefused.symm.trans hnext

/-! ### A register read after a register write -/

/-- The registers that store all 64 bits of a host write (43_control.md R108). -/
def fullWidthRegisters : List Reg :=
  [.FLG_IN, .ADDR_IN, .PKT_ID, .PKT_REQ, .PKT_RSP, .PKT_DWS, .PKT_DWE, .PKT_PLEN, .IN_LEN]

theorem fullWidthRegisters_map_offset :
    fullWidthRegisters.map Reg.offset = [0x020, 0x030, 0x058, 0x068, 0x070, 0x078, 0x080, 0x088, 0x098] := rfl

theorem ne_CMD_of_mem_fullWidthRegisters {r : Reg} (h : r ∈ fullWidthRegisters) : r ≠ .CMD := by
  rintro rfl
  exact absurd h (by decide)

theorem regRead_regWrite_of_mem_fullWidthRegisters {r : Reg} (h : r ∈ fullWidthRegisters) (v : Word64) (s : State) :
    regRead r (regWrite r v s) = v := by
  simp only [fullWidthRegisters, List.mem_cons, List.not_mem_nil, or_false] at h
  rcases h with rfl | rfl | rfl | rfl | rfl | rfl | rfl | rfl | rfl <;> rfl

@[simp] theorem regRead_withInputs (r : Reg) (s : State) (rest : List Input) :
    regRead r (s.withInputs rest) = regRead r s := by cases r <;> rfl

@[simp] theorem regWrite_inputs (r : Reg) (v : Word64) (s : State) : (regWrite r v s).inputs = s.inputs := by
  cases r <;> rfl

@[simp] theorem regWrite_responses (r : Reg) (v : Word64) (s : State) :
    (regWrite r v s).responses = s.responses := by cases r <;> rfl

theorem step_of_register_write {s : State} {r : Reg} {v : Word64} {rest : List Input} (hr : r ≠ .CMD)
    (hin : s.inputs = .access (.write r.offset 8 v) :: rest) : step s = .next (regWrite r v (s.withInputs rest)) := by
  rw [step_of_access hin, hostAccess_write_register _ hr]

theorem step_of_register_read {s : State} {r : Reg} {rest : List Input}
    (hin : s.inputs = .access (.read r.offset 8) :: rest) :
    step s = .next ((s.withInputs rest).respond (regRead r s)) := by
  rw [step_of_access hin, hostAccess_read_register, regRead_withInputs]

theorem step_register_read_after_write {s : State} {r : Reg} (hr : r ∈ fullWidthRegisters) {v : Word64}
    {rest : List Input}
    (hin : s.inputs = .access (.write r.offset 8 v) :: .access (.read r.offset 8) :: rest) :
    ∃ t u, step s = .next t ∧ step t = .next u ∧ u.inputs = rest ∧ u.responses = s.responses ++ [v] := by
  refine ⟨_, _, step_of_register_write (ne_CMD_of_mem_fullWidthRegisters hr) hin,
    step_of_register_read (regWrite_inputs _ _ _), rfl, ?_⟩
  rw [respond_responses, withInputs_responses, regWrite_responses, withInputs_responses,
    regRead_regWrite_of_mem_fullWidthRegisters hr]

/-! ### A byte read after a byte write -/

theorem toNat_setWidth_byte_lt (b : Byte) : (b.setWidth 64).toNat < 256 := by
  rw [BitVec.toNat_setWidth_of_le (by decide)]
  exact b.isLt

theorem setWidth_setWidth_byte (b : Byte) : (b.setWidth 64).setWidth 8 = b := by
  rw [BitVec.setWidth_setWidth_of_le b (by decide), BitVec.setWidth_eq]

theorem hostBufWrite_eq_bufWrite {B : Buffer} (hB : B ≠ .OBUF) (k : Nat) (b : Byte) (s : State) :
    hostBufWrite B k b s = bufWrite B k b s := by
  cases B with
  | OBUF => exact absurd rfl hB
  | IBUF | PBUF => rfl

theorem bufRead_bufWrite_same (B : Buffer) (k : Nat) (b : Byte) (s : State) : bufRead B k (bufWrite B k b s) = b := by
  rw [bufRead_bufWrite, if_pos ⟨rfl, rfl⟩]

theorem hostAccess_byte_read_after_write {frameMax : Nat} (hmax : frameMax ≤ 2 ^ 24) {B : Buffer} (hB : B ≠ .OBUF)
    {k : Nat} (hk : k < bufSize frameMax B) (b : Byte) (s : State) :
    ∃ t, hostAccess frameMax (.write (windowBase B + k) 1 (b.setWidth 64)) s = .next t
      ∧ hostAccess frameMax (.read (windowBase B + k) 1) t
        = .next { t with responses := s.responses ++ [b.setWidth 64] } := by
  refine ⟨bufWrite B k b s, ?write, ?read⟩
  case write =>
    rw [hostAccess_write_byte hmax hk (toNat_setWidth_byte_lt b), setWidth_setWidth_byte, hostBufWrite_eq_bufWrite hB]
  case read =>
    rw [hostAccess_read_byte hmax hk, bufRead_bufWrite_same, State.respond, bufWrite_responses]

/-- Settles O40: registers through two steps, buffer bytes through two accesses (20_memory.md R52). -/
theorem readReturnsTheLatestWrite : Obligations.ReadReturnsTheLatestWrite := by
  refine ⟨fun s offset v rest hoffset hin => ?register, fun frameMax s k b _ hmax => ⟨fun hk => ?ibuf, fun hk => ?pbuf⟩⟩
  case register =>
    rw [← fullWidthRegisters_map_offset] at hoffset
    obtain ⟨r, hr, rfl⟩ := List.mem_map.1 hoffset
    exact step_register_read_after_write hr hin
  case ibuf => exact hostAccess_byte_read_after_write (B := .IBUF) hmax (by decide) hk b s
  case pbuf => exact hostAccess_byte_read_after_write (B := .PBUF) hmax (by decide) hk b s

end Sys2Proof.Proofs
end

section
/-! PROOFS. The command word, the flags word and the header as bits: the statements of 30_encoding.md. -/

namespace Sys2Proof.Proofs

open Sys2Proof.Machine Sys2Proof.Laws

/-! ### Decoding and encoding are inverse -/

theorem decode_eq_reservedHighBits {w : Word64} (h : reservedField w ≠ 0) :
    decode w = .reservedHighBits (reservedField w) (opcodeField w) := by
  rw [decode, if_neg h]

theorem decode_eq_decodeOpcode {w : Word64} (h : reservedField w = 0) : decode w = decodeOpcode (opcodeField w) := by
  rw [decode, if_pos h]

theorem decodeOpcode_wellFormed : ∀ op : BitVec 4, (decodeOpcode op).wellFormed = true := by decide

@[simp] theorem decode_wellFormed (w : Word64) : (decode w).wellFormed = true := by
  by_cases h : reservedField w = 0
  · rw [decode_eq_decodeOpcode h]
    exact decodeOpcode_wellFormed _
  · rw [decode_eq_reservedHighBits h]
    exact bne_iff_ne.2 h

/-- The reserved bits choose the row, the opcode the command in it (30_encoding.md R67 to R70). -/
theorem decode_encode {i : Instr} (h : i.wellFormed = true) : decode (encode i) = i := by
  obtain ⟨hopcode, hreserved⟩ := encodeFields i
  cases i with
  | reservedHighBits reserved opcode =>
    have hne : reservedField (encode (.reservedHighBits reserved opcode)) ≠ 0 := by
      rw [hreserved]
      exact bne_iff_ne.1 h
    rw [decode_eq_reservedHighBits hne, hreserved, hopcode]
    rfl
  | _ =>
    rw [decode_eq_decodeOpcode hreserved, hopcode]
    rfl

theorem decode_eq_iff {w : Word64} {i : Instr} (h : i.wellFormed = true) : decode w = i ↔ w = encode i :=
  ⟨eq_encode_of_decode_eq, fun hw => hw ▸ decode_encode h⟩

/-- Settles O2. -/
theorem decodeInvertsEncode : Obligations.DecodeInvertsEncode := fun _ => decode_encode

/-- Settles O3: `encode` is the inverse of `decode` on the well-formed commands, from both sides. -/
theorem everyWordEncodesOneCommand : Obligations.EveryWordEncodesOneCommand :=
  fun w => ⟨decode_wellFormed w, encode_decode w, fun _ hi hw => ((decode_eq_iff hi).2 hw.symm).symm⟩

/-- Settles O1: the seven words by computing `encode`, read back by `decode_encode`. -/
theorem commandWordsAreZeroToSix : Obligations.CommandWordsAreZeroToSix := by
  have hencode : encode .nop = 0 ∧ encode .flagsPack = 1 ∧ encode .flagsUnpack = 2 ∧ encode .frameParse = 3
      ∧ encode .frameSerialize = 4 ∧ encode .addrDecode = 5 ∧ encode .clear = 6 := by decide
  refine ⟨?_, hencode⟩
  obtain ⟨h0, h1, h2, h3, h4, h5, h6⟩ := hencode
  rw [← h0, ← h1, ← h2, ← h3, ← h4, ← h5, ← h6]
  exact ⟨decode_encode rfl, decode_encode rfl, decode_encode rfl, decode_encode rfl, decode_encode rfl,
    decode_encode rfl, decode_encode rfl⟩

/-! ### The words above 6 -/

/-- The commands of 30_encoding.md R68. -/
def sevenCommands : List Instr :=
  [.nop, .flagsPack, .flagsUnpack, .frameParse, .frameSerialize, .addrDecode, .clear]

theorem sevenCommands_map_encode : sevenCommands.map encode = [0, 1, 2, 3, 4, 5, 6] := by decide

theorem decode_mem_iff {w : Word64} {is : List Instr} (h : ∀ i ∈ is, i.wellFormed = true) :
    decode w ∈ is ↔ w ∈ is.map encode := by
  rw [List.mem_map]
  constructor
  · exact fun hmem => ⟨decode w, hmem, encode_decode w⟩
  · rintro ⟨i, hi, rfl⟩
    rwa [decode_encode (h i hi)]

theorem decode_mem_sevenCommands_iff (w : Word64) : decode w ∈ sevenCommands ↔ w.toNat ≤ 6 := by
  rw [decode_mem_iff (by decide), sevenCommands_map_encode]
  simp only [List.mem_cons, List.not_mem_nil, or_false]
  bv_omega

/-- Every command but the seven is reserved (43_control.md R107). -/
theorem commandError_of_not_mem_sevenCommands {i : Instr} (h : i ∉ sevenCommands) (s : State) :
    commandError i s = some .BAD_CMD := by
  cases i with
  | nop | flagsPack | flagsUnpack | frameParse | frameSerialize | addrDecode | clear => exact absurd h (by decide)
  | _ => rfl

theorem exec_decode_of_six_lt {w : Word64} (h : 6 < w.toNat) (s : State) :
    exec (decode w) s = .next (raise (opcodeField w) .BAD_CMD s) := by
  have hreserved : decode w ∉ sevenCommands := fun hmem =>
    absurd ((decode_mem_sevenCommands_iff w).1 hmem) (Nat.not_le.2 h)
  rw [exec_eq_commandResult, commandResult_of_error (commandError_of_not_mem_sevenCommands hreserved s), decode_opcode]

/-- Settles O4. -/
theorem wordsAboveSixAreIllegal : Obligations.WordsAboveSixAreIllegal := by
  refine fun w => ⟨decode_mem_sevenCommands_iff w, fun hw s => ?_⟩
  rw [exec_decode_of_six_lt hw, raise_eq]
  rfl

/-! ### The flags word -/

/-- `bitOf` holds bit `i` of `v` at its bit 0 and nothing above it (00_scope.md R9). -/
@[simp] theorem getElem_bitOf {n width : Nat} (v : BitVec n) (i j : Nat) (hj : j < width) :
    (bitOf width v i)[j] = (decide (j = 0) && v.getLsbD i) := by
  by_cases hzero : j = 0
  · subst hzero
    by_cases hi : i < n
    · simp [bitOf, Nat.zero_lt_of_lt hi]
    · simp [bitOf, Nat.le_of_not_lt hi]
  · simp [bitOf, BitVec.getLsbD_one, hzero]

/-- The flags word is the flags value above a zero byte (30_encoding.md R62; 40_flags_codec.md R77). -/
theorem flagsPack_eq_shiftLeft (f : BitVec 8) : flagsPack f = f.setWidth 16 <<< 8 := by
  refine BitVec.eq_of_getElem_eq fun j hj => ?_
  interval_cases j <;> simp [flagsPack]

/-- The flags value is the flags word's high byte (30_encoding.md R62; 40_flags_codec.md R78). -/
theorem flagsUnpack_eq_extractLsb' (w : BitVec 16) : flagsUnpack w = w.extractLsb' 8 8 := by
  refine BitVec.eq_of_getElem_eq fun j hj => ?_
  interval_cases j <;> simp [flagsUnpack]

/-- Settles O11: the flags value is the high byte of the flags word. -/
theorem flagsWordLayout : Obligations.FlagsWordLayout := by
  refine ⟨fun f i hi => ?pack_high, fun f i hi => ?pack_low, fun w i hi => ?unpack, fun v w h => ?low_ignored⟩
  case pack_high =>
    have hword : 15 - i < 16 ∧ ¬ 15 - i < 8 ∧ 15 - i - 8 = 7 - i ∧ 7 - i < 16 := by omega
    simp [flagsPack_eq_shiftLeft, hword]
  case pack_low => simp [flagsPack_eq_shiftLeft, hi]
  case unpack =>
    have hlow : 7 - i < 8 := by omega
    rw [flagsUnpack_eq_extractLsb', BitVec.getLsbD_extractLsb', decide_eq_true hlow, Bool.true_and,
      show 8 + (7 - i) = 15 - i by omega]
  case low_ignored =>
    refine BitVec.eq_of_toNat_eq ?_
    simp only [flagsUnpack_eq_extractLsb', BitVec.extractLsb'_toNat, Nat.shiftRight_eq_div_pow, h]

/-! ### Big-endian values of byte sequences -/

theorem beJoin_lt (bs : List Byte) : beJoin bs < 2 ^ (8 * bs.length) := by
  rw [pow_mul]
  induction bs with
  | nil => decide
  | cons b bs ih =>
    have hb : b.toNat + 1 ≤ 256 := b.isLt
    calc b.toNat * 256 ^ bs.length + beJoin bs
      _ < (b.toNat + 1) * 256 ^ bs.length := by rw [Nat.succ_mul]; exact Nat.add_lt_add_left ih _
      _ ≤ 256 * 256 ^ bs.length := Nat.mul_le_mul_right _ hb
      _ = 256 ^ (bs.length + 1) := (Nat.pow_succ').symm

theorem beJoin_append (xs ys : List Byte) : beJoin (xs ++ ys) = beJoin xs * 2 ^ (8 * ys.length) + beJoin ys := by
  rw [pow_mul]
  induction xs with
  | nil => simp [beJoin]
  | cons x xs ih =>
    simp only [List.cons_append, beJoin, List.length_append, ih, pow_add]
    ring

/-- Cutting a byte sequence after `k` bytes cuts its value into high and low bits. -/
theorem beJoin_cut (bs : List Byte) (k : Nat) :
    beJoin bs = 2 ^ (8 * (bs.length - k)) * beJoin (bs.take k) + beJoin (bs.drop k)
    ∧ beJoin (bs.drop k) < 2 ^ (8 * (bs.length - k)) := by
  have happend := beJoin_append (bs.take k) (bs.drop k)
  have hlt := beJoin_lt (bs.drop k)
  rw [List.take_append_drop, List.length_drop, Nat.mul_comm] at happend
  rw [List.length_drop] at hlt
  exact ⟨happend, hlt⟩

theorem beJoin_take (bs : List Byte) (k : Nat) : beJoin (bs.take k) = beJoin bs / 2 ^ (8 * (bs.length - k)) := by
  obtain ⟨hcut, hlow⟩ := beJoin_cut bs k
  rw [hcut, Nat.mul_add_div (Nat.two_pow_pos _), Nat.div_eq_of_lt hlow, Nat.add_zero]

theorem beJoin_drop (bs : List Byte) (k : Nat) : beJoin (bs.drop k) = beJoin bs % 2 ^ (8 * (bs.length - k)) := by
  obtain ⟨hcut, hlow⟩ := beJoin_cut bs k
  rw [hcut, Nat.mul_add_mod, Nat.mod_eq_of_lt hlow]

/-- A slice of a frame's first `n` bytes is a bit field of their value (30_encoding.md R60). -/
theorem beJoin_slice_eq_bitField {b : List Byte} {n : Nat} (off L : Nat) (hn : n ≤ b.length) (hoff : off + L ≤ n) :
    beJoin ((b.drop off).take L) = beJoin (b.take n) / 2 ^ (8 * (n - (off + L))) % 2 ^ (8 * L) := by
  have hslice : (b.drop off).take L = ((b.take n).take (off + L)).drop off := by
    rw [List.take_take, Nat.min_eq_left hoff, List.drop_take, Nat.add_sub_cancel_left]
  have hfirst : (b.take n).length = n := List.length_take_of_le hn
  have hthrough : ((b.take n).take (off + L)).length = off + L := List.length_take_of_le (hfirst.symm ▸ hoff)
  rw [hslice, beJoin_drop, beJoin_take, hfirst, hthrough, Nat.add_sub_cancel_left]

/-! ### The header fields -/

theorem listField_succ (b : List Byte) (off L : Nat) :
    Stated.listField b off (L + 1) = (byteAt b off).toNat * 2 ^ (8 * L) + Stated.listField b (off + 1) L := by
  rw [pow_mul]
  simp [Stated.listField, List.range_succ_eq_map, beJoin, byteAt, Function.comp_def, Nat.add_comm, Nat.add_left_comm]

theorem listField_lt (b : List Byte) (off L : Nat) : Stated.listField b off L < 2 ^ (8 * L) := by
  simpa [Stated.listField] using beJoin_lt ((List.range L).map fun i => b.getD (off + i) 0)

/-- The inner loop of `frame_parse` appends the field to what it has accumulated (41_frame_codec.md R86). -/
theorem accumulate_eq (b : List Byte) (off L acc : Nat) :
    accumulate b off L acc = acc * 2 ^ (8 * L) + Stated.listField b off L := by
  induction L generalizing off acc with
  | zero => simp [accumulate, Stated.listField, beJoin]
  | succ L ih =>
    have hshift : (acc <<< 8) ||| (byteAt b off).toNat = acc * 2 ^ 8 + (byteAt b off).toNat := by
      rw [← Nat.shiftLeft_add_eq_or_of_lt (byteAt b off).isLt, Nat.shiftLeft_eq]
    rw [accumulate, ih, hshift, listField_succ, Nat.mul_succ, pow_add]
    ring

theorem parseField_eq_ofNat (b : List Byte) (off L : Nat) :
    parseField b off L = BitVec.ofNat (8 * L) (Stated.listField b off L) := by
  rw [parseField, accumulate_eq, Nat.zero_mul, Nat.zero_add]

theorem parseField_toNat (b : List Byte) (off L : Nat) : (parseField b off L).toNat = Stated.listField b off L := by
  rw [parseField_eq_ofNat, BitVec.toNat_ofNat, Nat.mod_eq_of_lt (listField_lt b off L)]

theorem listField_eq_beJoin_slice {b : List Byte} {off L : Nat} (h : off + L ≤ b.length) :
    Stated.listField b off L = beJoin ((b.drop off).take L) := by
  have hlength : L ≤ b.length - off := by omega
  refine congrArg beJoin (List.ext_getElem (by simp [hlength]) fun k hk _ => ?_)
  have hk : off + k < b.length := by
    rw [List.length_map, List.length_range] at hk
    omega
  simp [hk]

/-- Settles O16: the parse loop reads slices, and each slice of the header is a bit field of it. -/
theorem headerFieldsAreBitsOfTheHeader : Obligations.HeaderFieldsAreBitsOfTheHeader := by
  intro b hb
  have field (off L : Nat) (h : off + L ≤ 28) : (parseField b off L).toNat = beJoin ((b.drop off).take L) := by
    rw [parseField_toNat, listField_eq_beJoin_slice (h.trans hb)]
  have flagsWord : parseField b 2 2 = BitVec.ofNat 16 (beJoin ((b.drop 2).take 2)) := by
    rw [parseField_eq_ofNat, listField_eq_beJoin_slice (by omega)]
  refine ⟨⟨field 0 2 (by decide), congrArg flagsUnpack flagsWord, field 4 6 (by decide), field 10 6 (by decide),
    field 16 6 (by decide), field 22 6 (by decide)⟩, ?bits⟩
  exact ⟨beJoin_slice_eq_bitField 0 2 hb (by decide), beJoin_slice_eq_bitField 2 2 hb (by decide),
    beJoin_slice_eq_bitField 4 6 hb (by decide), beJoin_slice_eq_bitField 10 6 hb (by decide),
    beJoin_slice_eq_bitField 16 6 hb (by decide),
    (beJoin_slice_eq_bitField 22 6 hb (by decide)).trans (by rw [Nat.sub_self, Nat.mul_zero, pow_zero, Nat.div_one])⟩

end Sys2Proof.Proofs
end

section
/-! PROOFS. The flags codec in arithmetic, and what its two commands do: the statements of 40_flags_codec.md. -/

namespace Sys2Proof.Proofs

open Sys2Proof.Machine Sys2Proof.Laws

/-! ### The codec functions in arithmetic -/

theorem flagsPack_toNat (f : BitVec 8) : (flagsPack f).toNat = f.toNat * 2 ^ 8 := by
  have hfits : f.toNat * 2 ^ 8 < 2 ^ 16 := by omega
  rw [flagsPack_eq_shiftLeft, BitVec.toNat_shiftLeft, BitVec.toNat_setWidth_of_le (by decide), Nat.shiftLeft_eq,
    Nat.mod_eq_of_lt hfits]

theorem flagsUnpack_toNat (w : BitVec 16) : (flagsUnpack w).toNat = w.toNat / 2 ^ 8 := by
  have hfits : w.toNat / 2 ^ 8 < 2 ^ 8 := by omega
  rw [flagsUnpack_eq_extractLsb', BitVec.extractLsb'_toNat, Nat.shiftRight_eq_div_pow, Nat.mod_eq_of_lt hfits]

/-- No flag is lost by packing (40_flags_codec.md R82). -/
@[simp] theorem flagsUnpack_flagsPack (f : BitVec 8) : flagsUnpack (flagsPack f) = f := by
  refine BitVec.eq_of_toNat_eq ?_
  rw [flagsUnpack_toNat, flagsPack_toNat, Nat.mul_div_cancel _ (by decide)]

/-- Unpacking loses the low byte of the word, and only it (40_flags_codec.md R82). -/
theorem flagsPack_flagsUnpack (w : BitVec 16) : flagsPack (flagsUnpack w) = w &&& 0xFF00 := by
  refine BitVec.eq_of_getElem_eq fun j hj => ?_
  rw [flagsPack_eq_shiftLeft, flagsUnpack_eq_extractLsb']
  interval_cases j <;> simp

/-- A FLG_IN that is a 16-bit word is its own low 16 bits (40_flags_codec.md R80). -/
theorem toNat_setWidth_16_of_le {v : Word64} (h : v.toNat ≤ 0xFFFF) : (v.setWidth 16).toNat = v.toNat := by
  rw [BitVec.toNat_setWidth, Nat.mod_eq_of_lt (Nat.lt_succ_of_le h)]

/-! ### What the flags commands do -/

theorem complete_setFlagsResult_eq (op : BitVec 4) (v : Word64) (s : State) :
    complete op none (s.setFlagsResult v) = { s with FLG_OUT := v, STATUS := Stated.okStatus op s.STATUS } :=
  complete_none_eq op _

theorem exec_flagsPack (s : State) :
    exec .flagsPack s = .next { s with
      FLG_OUT := (flagsPack (flagsOperand s)).setWidth 64, STATUS := Stated.okStatus 0x1 s.STATUS } := by
  rw [exec_eq_commandResult, commandResult_of_no_error rfl]
  exact congrArg Host.Outcome.next (complete_setFlagsResult_eq 0x1 _ s)

theorem exec_flagsUnpack_of_le {s : State} (h : s.FLG_IN.toNat ≤ 0xFFFF) :
    exec .flagsUnpack s = .next { s with
      FLG_OUT := (flagsUnpack (s.FLG_IN.setWidth 16)).setWidth 64, STATUS := Stated.okStatus 0x2 s.STATUS } := by
  have hok : commandError .flagsUnpack s = none := if_neg (Nat.not_lt.2 h)
  rw [exec_eq_commandResult, commandResult_of_no_error hok]
  exact congrArg Host.Outcome.next (complete_setFlagsResult_eq 0x2 _ s)

theorem exec_flagsUnpack_of_lt {s : State} (h : 0xFFFF < s.FLG_IN.toNat) :
    exec .flagsUnpack s = .next { s with STATUS := Stated.errStatus 0x2 1 } := by
  have herror : commandError .flagsUnpack s = some .FLAGS_RANGE := if_pos h
  rw [exec_eq_commandResult, commandResult_of_error herror, raise_eq]
  rfl

/-- Settles O12: `flagsPack` in arithmetic, on FLG_IN[7:0]. -/
theorem flagsPackResult : Obligations.FlagsPackResult := by
  refine fun s => ⟨_, ?_, exec_flagsPack s⟩
  rw [BitVec.toNat_setWidth_of_le (by decide), flagsPack_toNat, flagsOperand, BitVec.toNat_setWidth]

/-- Settles O13: `flagsUnpack` in arithmetic, on a FLG_IN that is its own low 16 bits. -/
theorem flagsUnpackResult : Obligations.FlagsUnpackResult := by
  refine fun s => ⟨fun h => ⟨_, ?_, exec_flagsUnpack_of_le h⟩, exec_flagsUnpack_of_lt⟩
  rw [BitVec.toNat_setWidth_of_le (by decide), flagsUnpack_toNat, toNat_setWidth_16_of_le h]

/-- Settles O14: FLG_OUT holds all of the flags value, so the commands compose as the functions do. -/
theorem flagsRoundTrip : Obligations.FlagsRoundTrip := by
  refine ⟨flagsPack_flagsUnpack, flagsUnpack_flagsPack, fun s h =>
    ⟨_, _, exec_flagsUnpack_of_le h, exec_flagsPack _, ?_⟩⟩
  have hword : (s.FLG_IN.setWidth 16).setWidth 64 = s.FLG_IN :=
    BitVec.eq_of_toNat_eq ((BitVec.toNat_setWidth_of_le (by decide)).trans (toNat_setWidth_16_of_le h))
  calc (flagsPack (((flagsUnpack (s.FLG_IN.setWidth 16)).setWidth 64).setWidth 8)).setWidth 64
    _ = (flagsPack (flagsUnpack (s.FLG_IN.setWidth 16))).setWidth 64 := by
      rw [BitVec.setWidth_setWidth_of_le _ (by decide), BitVec.setWidth_eq]
    _ = (s.FLG_IN.setWidth 16 &&& 0xFF00).setWidth 64 := by rw [flagsPack_flagsUnpack]
    _ = s.FLG_IN &&& 0xFF00 := by rw [BitVec.setWidth_and, hword]; rfl

end Sys2Proof.Proofs
end

section
/-! PROOFS. The frame codec: a frame and a packet as values, what each frame command does, said once, and the statements
of 41_frame_codec.md. -/

namespace Sys2Proof.Proofs

open Sys2Proof.Machine Sys2Proof.Laws

/-! ### Splitting a number into bytes -/

theorem split_succ (v L : Nat) : split v (L + 1) = BitVec.ofNat 8 ((v >>> (8 * L)) &&& 0xFF) :: split v L := by
  rw [split, List.range_succ, List.map_append, List.reverse_append]
  rfl

/-- The source's reversed loop splits as the spec does (00_scope.md R11; 41_frame_codec.md R91). -/
theorem split_eq_beSplit (v L : Nat) : split v L = beSplit v L := by
  induction L with
  | zero => rfl
  | succ L ih => rw [split_succ, beSplit, ih]

/-- The byte that `split` puts first holds the bits from 8L up. -/
theorem splitByte_toNat (v L : Nat) : (BitVec.ofNat 8 ((v >>> (8 * L)) &&& 0xFF)).toNat = v / 2 ^ (8 * L) % 2 ^ 8 := by
  rw [BitVec.toNat_ofNat, Nat.shiftRight_eq_div_pow, Nat.and_two_pow_sub_one_eq_mod _ 8, Nat.mod_mod]

/-- Splitting keeps the low 8L bits (41_frame_codec.md R91, R93). -/
@[simp] theorem beJoin_split (v L : Nat) : beJoin (split v L) = v % 2 ^ (8 * L) := by
  induction L with
  | zero => rw [Nat.mul_zero, pow_zero, Nat.mod_one]; rfl
  | succ L ih =>
    rw [split_succ, beJoin, ih, split_length, splitByte_toNat, Nat.mul_succ, pow_add, Nat.mod_mul, pow_mul]
    ring

/-- A byte sequence is determined by its length and its big-endian value. -/
theorem eq_of_beJoin_eq {xs ys : List Byte} (hlength : xs.length = ys.length) (h : beJoin xs = beJoin ys) : xs = ys := by
  induction xs generalizing ys with
  | nil => exact (List.length_eq_zero_iff.1 hlength.symm).symm
  | cons x xs ih =>
    cases ys with
    | nil => cases hlength
    | cons y ys =>
      have htail : xs.length = ys.length := Nat.succ.inj hlength
      have cut (z : Byte) {zs : List Byte} (hz : zs.length = xs.length) :
          beJoin (z :: zs) / 256 ^ xs.length = z.toNat ∧ beJoin (z :: zs) % 256 ^ xs.length = beJoin zs := by
        have hlt := beJoin_lt zs
        rw [pow_mul, hz] at hlt
        refine (Nat.div_mod_unique (by positivity)).2 ⟨?_, hlt⟩
        rw [beJoin, hz, Nat.mul_comm, Nat.add_comm]
      obtain ⟨hx, hxs⟩ := cut x rfl
      obtain ⟨hy, hys⟩ := cut y htail.symm
      rw [h] at hx hxs
      rw [BitVec.eq_of_toNat_eq (hx.symm.trans hy), ih htail (hxs.symm.trans hys)]

/-- A value wider than the field is truncated (41_frame_codec.md R93). -/
theorem split_mod (v L : Nat) : split (v % 2 ^ (8 * L)) L = split v L :=
  eq_of_beJoin_eq (by simp) (by simp)

theorem split_beJoin {bs : List Byte} {L : Nat} (h : bs.length = L) : split (beJoin bs) L = bs := by
  refine eq_of_beJoin_eq (by simp [h]) ?_
  rw [beJoin_split, ← h, Nat.mod_eq_of_lt (beJoin_lt bs)]

theorem split_zero (L : Nat) : split 0 L = List.replicate L 0 := by
  induction L with
  | zero => rfl
  | succ L ih => rw [split_succ, ih, Nat.zero_shiftRight]; rfl

/-- The flags field of a frame is the flags value and a zero byte (30_encoding.md R62; 41_frame_codec.md R91). -/
theorem split_flagsPack (f : BitVec 8) : split (flagsPack f).toNat 2 = [f, 0] := by
  refine eq_of_beJoin_eq (split_length _ _) ?_
  rw [beJoin_split, Nat.mod_eq_of_lt (flagsPack f).isLt, flagsPack_toNat]
  simp [beJoin]

/-! ### The fields of a byte sequence -/

/-- Settles O15: the loop is `accumulate_eq`, and the flags value is the high byte of its field. -/
theorem parseLoopComputesTheFields : Obligations.ParseLoopComputesTheFields := by
  refine fun b => ⟨parseField_toNat b 0 2, ?flags, parseField_toNat b 4 6, parseField_toNat b 10 6,
    parseField_toNat b 16 6, parseField_toNat b 22 6, rfl⟩
  case flags => rw [frameParse, flagsUnpack_toNat, parseField_toNat]

theorem listField_append_of_le {xs : List Byte} {off : Nat} (h : xs.length ≤ off) (ys : List Byte) (L : Nat) :
    Stated.listField (xs ++ ys) off L = Stated.listField ys (off - xs.length) L := by
  refine congrArg beJoin (List.map_congr_left fun i _ => ?_)
  rw [List.getD_append_right _ _ _ _ (by omega), Nat.sub_add_comm h]

theorem listField_append_zero {xs : List Byte} {L : Nat} (h : xs.length = L) (ys : List Byte) :
    Stated.listField (xs ++ ys) 0 L = beJoin xs := by
  rw [listField_eq_beJoin_slice (by simp [h]), ← h, List.drop_zero, List.take_left]

/-- Writing a parsed field back gives its bytes, a missing one as 0 (41_frame_codec.md R85). -/
theorem split_listField (b : List Byte) (off L : Nat) :
    split (Stated.listField b off L) L = (List.range L).map fun i => b.getD (off + i) 0 :=
  split_beJoin (by simp)

/-! ### A frame and a packet as values -/

theorem frameSerialize_length (id : Nat) (flags : BitVec 8) (req rsp dws dwe : Nat) (payload : List Byte) :
    (frameSerialize id flags req rsp dws dwe payload).length = 28 + payload.length := by
  simp only [frameSerialize, List.length_append, split_length]

/-- Settles O19: past the fields before it, each field is read back by `beJoin_split`. -/
theorem serializedFrameLayout : Obligations.SerializedFrameLayout := by
  intro id flags req rsp dws dwe payload
  have byte3 : (frameSerialize id flags req rsp dws dwe payload).getD 3 0xFF = 0 := by
    rw [frameSerialize, split_flagsPack]
    rfl
  have word : (flagsPack flags).toNat % 65536 = (flagsPack flags).toNat := Nat.mod_eq_of_lt (flagsPack flags).isLt
  refine ⟨frameSerialize_length .., List.drop_left' (by simp), byte3, ?_, ?_, ?_, ?_, ?_, ?_⟩ <;>
    simp [frameSerialize, listField_append_of_le, listField_append_zero, word]

/-- The frame of a packet value (41_frame_codec.md R91). -/
def serializePacket (p : Packet) : List Byte :=
  frameSerialize p.id.toNat p.flags p.request_address.toNat p.response_address.toNat p.data_window_start.toNat
    p.data_window_end.toNat p.payload

theorem serializePacket_length (p : Packet) : (serializePacket p).length = 28 + p.payload.length :=
  frameSerialize_length ..

/-- The packet in the packet registers and PBUF, each register cut to its field's width (41_frame_codec.md R93). -/
def registerPacket (s : State) : Packet where
  id := s.PKT_ID.setWidth 16
  flags := s.PKT_FLAGS
  request_address := s.PKT_REQ.setWidth 48
  response_address := s.PKT_RSP.setWidth 48
  data_window_start := s.PKT_DWS.setWidth 48
  data_window_end := s.PKT_DWE.setWidth 48
  payload := payloadOperand s

/-- What FRAME_SERIALIZE stores is the frame of the packet in the registers (41_frame_codec.md R93, R94). -/
theorem packetFrame_eq_serializePacket (s : State) : packetFrame s = serializePacket (registerPacket s) := by
  have low16 (v : Nat) : split (v % 2 ^ 16) 2 = split v 2 := split_mod v 2
  have low48 (v : Nat) : split (v % 2 ^ 48) 6 = split v 6 := split_mod v 6
  simp only [packetFrame, serializePacket, registerPacket, frameSerialize, BitVec.toNat_setWidth, low16, low48]

/-- No packet is lost by serializing it (41_frame_codec.md R96). -/
@[simp] theorem frameParse_serializePacket (p : Packet) : frameParse (serializePacket p) = p := by
  have field {off L : Nat} {v : BitVec (8 * L)}
      (h : Stated.listField (serializePacket p) off L = v.toNat % 2 ^ (8 * L)) :
      parseField (serializePacket p) off L = v :=
    BitVec.eq_of_toNat_eq ((parseField_toNat _ _ _).trans (h.trans (Nat.mod_eq_of_lt v.isLt)))
  obtain ⟨-, hpayload, -, hid, hflags, hreq, hrsp, hdws, hdwe⟩ := serializedFrameLayout p.id.toNat p.flags
    p.request_address.toNat p.response_address.toNat p.data_window_start.toNat p.data_window_end.toNat p.payload
  have hword : parseField (serializePacket p) 2 2 = flagsPack p.flags :=
    BitVec.eq_of_toNat_eq ((parseField_toNat _ _ _).trans hflags)
  calc frameParse (serializePacket p)
    _ = ⟨p.id, flagsUnpack (flagsPack p.flags), p.request_address, p.response_address, p.data_window_start,
          p.data_window_end, p.payload⟩ :=
      Packet.mk.injEq .. |>.mpr ⟨field hid, congrArg flagsUnpack hword, field hreq, field hrsp, field hdws, field hdwe,
        hpayload⟩
    _ = p := by rw [flagsUnpack_flagsPack]

theorem frameParse_flags (b : List Byte) : (frameParse b).flags = b.getD 2 0 := by
  have hvalue : Stated.listField b 2 2 = (b.getD 2 0).toNat * 2 ^ 8 + (b.getD 3 0).toNat := by
    simp [Stated.listField, List.range_succ, beJoin]
  refine BitVec.eq_of_toNat_eq ?_
  have hlow := (b.getD 3 0).isLt
  rw [frameParse, flagsUnpack_toNat, parseField_toNat, hvalue]
  omega

/-- A frame comes back from its packet zero-padded to 28 bytes and with byte 3 replaced by 0 (41_frame_codec.md R97). -/
theorem serializePacket_frameParse (b : List Byte) :
    serializePacket (frameParse b) = (List.range 28).map (fun k => if k = 3 then 0 else b.getD k 0) ++ b.drop 28 := by
  have field (off L : Nat) : split (parseField b off L).toNat L = (List.range L).map fun i => b.getD (off + i) 0 := by
    rw [parseField_toNat, split_listField]
  have fields : serializePacket (frameParse b) = split (parseField b 0 2).toNat 2 ++ [b.getD 2 0, 0]
      ++ split (parseField b 4 6).toNat 6 ++ split (parseField b 10 6).toNat 6 ++ split (parseField b 16 6).toNat 6
      ++ split (parseField b 22 6).toNat 6 ++ b.drop 28 := by
    rw [serializePacket, frameSerialize, split_flagsPack, frameParse_flags]
    rfl
  simp only [fields, field]
  rfl

theorem serializePacket_frameParse_getD (b : List Byte) (k : Nat) :
    (serializePacket (frameParse b)).getD k 0 = if k = 3 then 0 else b.getD k 0 := by
  rw [serializePacket_frameParse]
  by_cases hk : k < 28
  · rw [List.getD_append _ _ _ _ (by simpa using hk)]
    simp [hk]
  · rw [List.getD_append_right _ _ _ _ (by simpa using hk), if_neg (by omega)]
    simp [Nat.add_sub_cancel' (Nat.le_of_not_lt hk)]

/-! ### What a command stores and loads of the buffers -/

theorem raise_eq_errStatus (op : BitVec 4) (e : ErrorCause) (s : State) :
    raise op e s = { s with STATUS := Stated.errStatus op e.code } := raise_eq op e s

theorem complete_none_eq_okStatus (op : BitVec 4) (s : State) :
    complete op none s = { s with STATUS := Stated.okStatus op s.STATUS } := complete_none_eq op s

theorem bufBytes_eq_of_bufRead {B : Buffer} {s : State} {bs : List Byte}
    (h : ∀ k, k < bs.length → bufRead B k s = bs.getD k 0) : bufBytes B 0 bs.length s = bs := by
  refine List.ext_getElem (bufBytes_length ..) fun k _ hk => ?_
  simp [bufBytes, h k hk, hk]

theorem bufRead_PBUF_loadPacket {p : Packet} {k : Nat} (h : k < p.payload.length) (s : State) :
    bufRead .PBUF k (loadPacket p s) = p.payload.getD k 0 := by
  rw [loadPacket, bufRead_bufWriteBytes, if_pos ⟨rfl, Nat.zero_le k, by rwa [Nat.zero_add]⟩, Nat.sub_zero]

theorem bufRead_OBUF_storeFrame {frame : List Byte} {k : Nat} (h : k < frame.length) (s : State) :
    bufRead .OBUF k (storeFrame frame s) = frame.getD k 0 := by
  rw [storeFrame, bufRead_setFrameLength, bufRead_bufWriteBytes,
    if_pos ⟨rfl, Nat.zero_le k, by rwa [Nat.zero_add]⟩, Nat.sub_zero]

theorem storeFrame_OUT_LEN_of_lt {s : State} (frame : List Byte) (h : 28 + s.PKT_PLEN.toNat < 2 ^ 64) :
    (storeFrame frame s).OUT_LEN.toNat = 28 + s.PKT_PLEN.toNat := by
  rw [storeFrame, setFrameLength_OUT_LEN, BitVec.toNat_ofNat]
  exact Nat.mod_eq_of_lt h

theorem frameOperand_getD (s : State) (k : Nat) : (frameOperand s).getD k 0 = Stated.frameByte s k := by
  rw [frameOperand, bufBytes_getD, Nat.zero_add]
  rfl

theorem listField_frameOperand (s : State) (off L : Nat) :
    Stated.listField (frameOperand s) off L = Stated.headerField s off L :=
  congrArg beJoin (List.map_congr_left fun i _ => frameOperand_getD s (off + i))

theorem frameParse_frameOperand_payload_length (s : State) :
    (frameParse (frameOperand s)).payload.length = s.IN_LEN.toNat - 28 := by
  rw [frameParse_payload_length, frameOperand_length, frameLength]

theorem frameParse_frameOperand_payload_getD {s : State} {k : Nat} (h : k < s.IN_LEN.toNat - 28) :
    (frameParse (frameOperand s)).payload.getD k 0 = bufRead .IBUF (28 + k) s := by
  have hin : 28 + k < s.IN_LEN.toNat := by omega
  calc ((frameOperand s).drop 28).getD k 0
    _ = (frameOperand s).getD (28 + k) 0 := by simp
    _ = bufRead .IBUF (28 + k) s := by rw [frameOperand_getD, Stated.frameByte, if_pos hin]

theorem payloadOperand_getD {s : State} {k : Nat} (h : k < s.PKT_PLEN.toNat) :
    (payloadOperand s).getD k 0 = bufRead .PBUF k s := by
  rw [payloadOperand, bufBytes_getD, payloadLength, if_pos h, Nat.zero_add]

/-- What FRAME_SERIALIZE stores, in the terms of 30_encoding.md R59. -/
theorem packetFrame_eq_headerBytes (s : State) : packetFrame s = Stated.headerBytes s ++ payloadOperand s := by
  rw [packetFrame, frameSerialize, split_flagsPack, Stated.headerBytes]
  simp only [split_eq_beSplit]

theorem headerBytes_length (s : State) : (Stated.headerBytes s).length = 28 := by
  simp only [Stated.headerBytes, ← split_eq_beSplit, List.length_append, split_length]
  rfl

theorem packetFrame_getD_header (s : State) {k : Nat} (h : k < 28) :
    (packetFrame s).getD k 0 = (Stated.headerBytes s).getD k 0 := by
  rw [packetFrame_eq_headerBytes, List.getD_append _ _ _ _ (by rwa [headerBytes_length])]

theorem packetFrame_getD_payload {s : State} {k : Nat} (h : k < s.PKT_PLEN.toNat) :
    (packetFrame s).getD (28 + k) 0 = bufRead .PBUF k s := by
  rw [packetFrame_eq_headerBytes, List.getD_append_right _ _ _ _ (by simp [headerBytes_length]), headerBytes_length,
    Nat.add_sub_cancel_left, payloadOperand_getD h]

/-! ### FRAME_PARSE -/

theorem frameParseCommand_of_long {frameMax : Nat} {s : State} (h : frameMax < s.IN_LEN.toNat) :
    frameParseCommand frameMax s = { s with STATUS := Stated.errStatus 0x3 2 } :=
  (if_pos h).trans (raise_eq_errStatus _ _ s)

theorem frameParseCommand_of_short {frameMax : Nat} {s : State} (hfits : s.IN_LEN.toNat ≤ frameMax)
    (hstrict : s.CTRL.STRICT = true) (hshort : s.IN_LEN.toNat < 28) :
    frameParseCommand frameMax s = { s with STATUS := Stated.errStatus 0x3 4 } :=
  (if_neg (Nat.not_lt.2 hfits)).trans ((if_pos ⟨hstrict, hshort⟩).trans (raise_eq_errStatus _ _ s))

theorem frameParseCommand_of_accepted {frameMax : Nat} {s : State} (hfits : s.IN_LEN.toNat ≤ frameMax)
    (h : s.CTRL.STRICT = false ∨ 28 ≤ s.IN_LEN.toNat) :
    frameParseCommand frameMax s = complete 0x3 none (loadPacket (frameParse (frameOperand s)) s) := by
  have hpolicy : ¬ (strictPolicy s = true ∧ frameLength s < 28) := by
    rintro ⟨hstrict, hshort⟩
    rcases h with h | h
    · exact Bool.false_ne_true (h.symm.trans hstrict)
    · exact absurd hshort (Nat.not_lt.2 h)
  exact (if_neg (Nat.not_lt.2 hfits)).trans (if_neg hpolicy)

/-- A parsed field, zero-extended into its register, is the field of the frame in IBUF (41_frame_codec.md R89). -/
theorem parseField_register (s : State) (off : Nat) {L : Nat} (hL : 8 * L ≤ 64) :
    ((parseField (frameOperand s) off L).setWidth 64).toNat = Stated.headerField s off L := by
  rw [BitVec.toNat_setWidth_of_le hL, parseField_toNat, listField_frameOperand]

/-- Settles O17: one lemma for each check, and one for each part of what `loadPacket` writes. -/
theorem frameParseResult : Obligations.FrameParseResult := by
  refine ⟨fun _ => rfl, frameMax_ge, frameMax_le, fun frameMax s _ hmax =>
    ⟨frameParseCommand_of_long, frameParseCommand_of_short, fun hfits hpolicy => ?accepted⟩⟩
  have hlength := frameParse_frameOperand_payload_length s
  refine ⟨_, frameParseCommand_of_accepted hfits hpolicy, complete_none_eq_okStatus _ _,
    parseField_register s 0 (by decide), ?flags, parseField_register s 4 (by decide),
    parseField_register s 10 (by decide), parseField_register s 16 (by decide), parseField_register s 22 (by decide),
    ?length, fun k hk => (bufRead_complete ..).trans ?payload, fun k hk => (bufRead_complete ..).trans ?above⟩
  case flags =>
    calc (frameParse (frameOperand s)).flags.toNat
      _ = Stated.headerField s 2 2 / 2 ^ 8 := by
        rw [frameParse, flagsUnpack_toNat, parseField_toNat, listField_frameOperand]
  case length => exact (loadPacket_PKT_PLEN s (by omega)).trans hlength
  case payload =>
    exact (bufRead_PBUF_loadPacket (hlength.symm ▸ hk) s).trans (frameParse_frameOperand_payload_getD hk)
  case above => exact bufRead_loadPacket (.inr (hlength.symm ▸ hk))

/-- The policy does not change what a frame of 28 bytes or more parses to (41_frame_codec.md R90). -/
theorem frameParseCommand_withCtrl (frameMax : Nat) {s : State} (h : 28 ≤ s.IN_LEN.toNat) (c : Ctrl) :
    frameParseCommand frameMax (withCtrl s c) = withCtrl (frameParseCommand frameMax s) c := by
  by_cases hfits : s.IN_LEN.toNat ≤ frameMax
  · rw [frameParseCommand_of_accepted hfits (.inr h), frameParseCommand_of_accepted (s := withCtrl s c) hfits (.inr h)]
    rfl
  · have hlong : frameMax < s.IN_LEN.toNat := Nat.lt_of_not_le hfits
    rw [frameParseCommand_of_long hlong, frameParseCommand_of_long (s := withCtrl s c) hlong]
    rfl

/-- Settles O18: a short frame fits every block, and on any other frame the policy commutes with the command. -/
theorem strictParseDiffersOnlyOnShortFrames : Obligations.StrictParseDiffersOnlyOnShortFrames := by
  refine fun s => ⟨fun hstrict hshort => ?short, fun h => ?same⟩
  case short =>
    have hfits : s.IN_LEN.toNat ≤ Config.FRAME_MAX := hshort.le.trans frameMax_ge
    exact congrArg Host.Outcome.next (frameParseCommand_of_short hfits hstrict hshort)
  case same =>
    have result (c : Ctrl) :
        exec .frameParse (withCtrl s c) = .next (withCtrl (frameParseCommand Config.FRAME_MAX s) c) :=
      congrArg Host.Outcome.next (frameParseCommand_withCtrl Config.FRAME_MAX h c)
    exact ⟨_, result ⟨false⟩, result ⟨true⟩⟩

/-! ### FRAME_SERIALIZE -/

theorem packetFieldMissing_iff (s : State) : packetFieldMissing s = true ↔ ¬ Stated.packetComplete s := by
  simp only [packetFieldMissing, Bool.or_eq_true, Bool.not_eq_true', Bool.eq_false_iff, Stated.packetComplete,
    not_and_or, ne_eq]

theorem packetFieldTooWide_iff (s : State) : packetFieldTooWide s = true ↔ Stated.overWidth s := by
  simp only [packetFieldTooWide, Stated.overWidth, Bool.or_eq_true, decide_eq_true_eq, or_assoc]

section
variable {frameMax : Nat} {s : State}

theorem frameSerializeCommand_of_missing (h : ¬ Stated.packetComplete s) :
    frameSerializeCommand frameMax s = { s with STATUS := Stated.errStatus 0x4 3 } := by
  rw [frameSerializeCommand, if_pos ((packetFieldMissing_iff s).2 h)]
  exact raise_eq_errStatus ..

theorem frameSerializeCommand_of_long (h : Stated.packetComplete s) (hlong : frameMax - 28 < s.PKT_PLEN.toNat) :
    frameSerializeCommand frameMax s = { s with STATUS := Stated.errStatus 0x4 2 } := by
  rw [frameSerializeCommand, if_neg fun hm => (packetFieldMissing_iff s).1 hm h,
    if_pos (show Config.payloadMax frameMax < payloadLength s from hlong)]
  exact raise_eq_errStatus ..

theorem frameSerializeCommand_of_overWidth (h : Stated.packetComplete s) (hfits : s.PKT_PLEN.toNat ≤ frameMax - 28)
    (hstrict : s.CTRL.STRICT = true) (hwide : Stated.overWidth s) :
    frameSerializeCommand frameMax s = { s with STATUS := Stated.errStatus 0x4 5 } := by
  rw [frameSerializeCommand, if_neg fun hm => (packetFieldMissing_iff s).1 hm h,
    if_neg (show ¬ Config.payloadMax frameMax < payloadLength s from Nat.not_lt.2 hfits),
    if_pos ⟨hstrict, (packetFieldTooWide_iff s).2 hwide⟩]
  exact raise_eq_errStatus ..

theorem frameSerializeCommand_of_accepted (h : Stated.packetComplete s) (hfits : s.PKT_PLEN.toNat ≤ frameMax - 28)
    (hpolicy : ¬ (s.CTRL.STRICT = true ∧ Stated.overWidth s)) :
    frameSerializeCommand frameMax s = complete 0x4 none (storeFrame (packetFrame s) s) := by
  rw [frameSerializeCommand, if_neg fun hm => (packetFieldMissing_iff s).1 hm h,
    if_neg (show ¬ Config.payloadMax frameMax < payloadLength s from Nat.not_lt.2 hfits),
    if_neg fun hw => hpolicy ⟨hw.1, (packetFieldTooWide_iff s).1 hw.2⟩]

end

theorem complete_storeFrame_eq (frame : List Byte) (s : State) :
    complete 0x4 none (storeFrame frame s) =
      { s with
        OBUF := (complete 0x4 none (storeFrame frame s)).OBUF
        OUT_LEN := (complete 0x4 none (storeFrame frame s)).OUT_LEN
        STATUS := Stated.okStatus 0x4 s.STATUS } :=
  complete_none_eq_okStatus 0x4 _

/-- Settles O20: one lemma for each check, and one for each part of what `storeFrame` writes. -/
theorem frameSerializeResult : Obligations.FrameSerializeResult := by
  refine ⟨fun _ => rfl, frameMax_ge, frameMax_le, fun frameMax s _ hmax =>
    ⟨frameSerializeCommand_of_missing, frameSerializeCommand_of_long, frameSerializeCommand_of_overWidth,
      fun hcomplete hfits hpolicy => ?accepted⟩⟩
  have hlength : (packetFrame s).length = 28 + s.PKT_PLEN.toNat := packetFrame_length s
  refine ⟨_, frameSerializeCommand_of_accepted hcomplete hfits hpolicy, complete_storeFrame_eq _ s,
    ?length, fun k hk => (bufRead_complete ..).trans ?header,
    fun k hk => (bufRead_complete ..).trans ?payload, fun k hk => (bufRead_complete ..).trans ?above⟩
  case length =>
    rw [complete_OUT_LEN]
    exact storeFrame_OUT_LEN_of_lt _ (by omega)
  case header => exact (bufRead_OBUF_storeFrame (by omega) s).trans (packetFrame_getD_header s hk)
  case payload => exact (bufRead_OBUF_storeFrame (by omega) s).trans (packetFrame_getD_payload hk)
  case above => exact bufRead_storeFrame (.inr (hlength.symm ▸ hk))

theorem headerBytes_getD_of_absent {s : State} (hreq : s.PKT_REQ = 0) (hrsp : s.PKT_RSP = 0) (hdws : s.PKT_DWS = 0)
    (hdwe : s.PKT_DWE = 0) {k : Nat} (h : 4 ≤ k) : (Stated.headerBytes s).getD k 0 = 0 := by
  have hzero : beSplit (0 : Word64).toNat 6 = List.replicate 6 0 := by rw [← split_eq_beSplit]; exact split_zero 6
  have hheader : Stated.headerBytes s = (beSplit s.PKT_ID.toNat 2 ++ [s.PKT_FLAGS, 0]) ++ List.replicate 24 0 := by
    rw [Stated.headerBytes, hreq, hrsp, hdws, hdwe, hzero]
    simp only [List.append_assoc, List.replicate_append_replicate]
  rw [hheader, List.getD_append_right _ _ _ _ (by simpa [← split_eq_beSplit] using h)]
  exact List.getElem?_getD_replicate_default_eq ..

/-- Settles O21, from the clauses of O20 for the machine's own capacity. -/
theorem absentFieldsEncodeAsZero : Obligations.AbsentFieldsEncodeAsZero := by
  obtain ⟨hexec, -, -, hresult⟩ := frameSerializeResult
  refine ⟨⟨rfl, rfl, rfl, rfl, rfl⟩, ?absent,
    fun s h => congrArg Host.Outcome.next (frameSerializeCommand_of_missing h)⟩
  rintro s hcomplete ⟨hreq, hrsp, hdws, hdwe, hplen⟩ hlenient
  obtain ⟨-, -, -, haccepted⟩ := hresult Config.FRAME_MAX s frameMax_ge frameMax_le
  have hlength : s.PKT_PLEN.toNat = 0 := by rw [hplen]; rfl
  have hpolicy : ¬ (s.CTRL.STRICT = true ∧ Stated.overWidth s) := fun h => Bool.false_ne_true (hlenient.symm.trans h.1)
  obtain ⟨t, ht, hframe, hout, hheader, -, habove⟩ := haccepted hcomplete (by omega) hpolicy
  rw [hlength] at hout habove
  refine ⟨t, (hexec s).trans (congrArg _ ht), by rw [hframe]; rfl, hout, fun k hk hk28 => ?_, habove⟩
  rw [hheader k hk28, headerBytes_getD_of_absent hreq hrsp hdws hdwe hk]

/-! ### One frame command after the other -/

/-- A register that holds no more than its field loses nothing there (41_frame_codec.md R93). -/
theorem setWidth_setWidth_of_lt {n : Nat} (hn : n ≤ 64) {v : Word64} (h : v.toNat < 2 ^ n) :
    (v.setWidth n).setWidth 64 = v :=
  BitVec.eq_of_toNat_eq (by rw [BitVec.toNat_setWidth_of_le hn, BitVec.toNat_setWidth, Nat.mod_eq_of_lt h])

theorem registerPacket_payload_length (s : State) : (registerPacket s).payload.length = s.PKT_PLEN.toNat :=
  bufBytes_length ..

/-- Loading the packet of `s` gives the packet of `s`, in any state (41_frame_codec.md R96). -/
theorem samePacket_loadPacket_registerPacket {s : State} (hpresent : s.PKT_PRESENT = { ID := true, FLAGS := true })
    (hwidth : ¬ Stated.overWidth s) (t : State) : Stated.samePacket s (loadPacket (registerPacket s) t) := by
  simp only [Stated.overWidth, not_or, Nat.not_le] at hwidth
  obtain ⟨hid, hreq, hrsp, hdws, hdwe⟩ := hwidth
  have hplen : BitVec.ofNat 64 (registerPacket s).payload.length = s.PKT_PLEN := by
    rw [registerPacket_payload_length, BitVec.ofNat_toNat, BitVec.setWidth_eq]
  exact ⟨setWidth_setWidth_of_lt (by decide) hid, rfl, setWidth_setWidth_of_lt (by decide) hreq,
    setWidth_setWidth_of_lt (by decide) hrsp, setWidth_setWidth_of_lt (by decide) hdws,
    setWidth_setWidth_of_lt (by decide) hdwe, hplen, hpresent.symm⟩

theorem frameOperand_eq_of_bufRead {s : State} {b : List Byte} (hlength : s.IN_LEN.toNat = b.length)
    (h : ∀ k, k < s.IN_LEN.toNat → bufRead .IBUF k s = b.getD k 0) : frameOperand s = b := by
  rw [hlength] at h
  rw [frameOperand, frameLength, hlength]
  exact bufBytes_eq_of_bufRead h

/-- FRAME_PARSE of the frame that FRAME_SERIALIZE makes of `s`, in any state `v` that holds it (41_frame_codec.md
R96). -/
theorem exec_frameParse_of_packetFrame {s v : State} (hpresent : s.PKT_PRESENT = { ID := true, FLAGS := true })
    (hwidth : ¬ Stated.overWidth s) (hlength : v.IN_LEN.toNat = 28 + s.PKT_PLEN.toNat)
    (hfits : v.IN_LEN.toNat ≤ Config.FRAME_MAX)
    (hread : ∀ k, k < v.IN_LEN.toNat → bufRead .IBUF k v = (packetFrame s).getD k 0) :
    ∃ u, exec .frameParse v = .next u ∧ u.STATUS.ERR = false ∧ Stated.samePacket s u
      ∧ ∀ k, k < s.PKT_PLEN.toNat → bufRead .PBUF k u = bufRead .PBUF k s := by
  have hparse : frameParse (frameOperand v) = registerPacket s := by
    rw [frameOperand_eq_of_bufRead (hlength.trans (packetFrame_length s).symm) hread, packetFrame_eq_serializePacket,
      frameParse_serializePacket]
  have haccepted : frameParseCommand Config.FRAME_MAX v = complete 0x3 none (loadPacket (registerPacket s) v) :=
    hparse ▸ frameParseCommand_of_accepted hfits (.inr (by omega))
  refine ⟨_, congrArg Host.Outcome.next haccepted, rfl, samePacket_loadPacket_registerPacket hpresent hwidth v,
    fun k hk => ?_⟩
  rw [bufRead_complete, bufRead_PBUF_loadPacket (by rwa [registerPacket_payload_length])]
  exact payloadOperand_getD hk

/-- Settles O22: FRAME_SERIALIZE stores the frame of the packet, and parsing inverts serializing. -/
theorem serializeThenParseKeepsThePacket : Obligations.SerializeThenParseKeepsThePacket := by
  intro s hpresent hid hreq hrsp hdws hdwe hplen
  have hcomplete : Stated.packetComplete s := by rw [Stated.packetComplete, hpresent]; exact ⟨rfl, rfl⟩
  have hwidth : ¬ Stated.overWidth s := by rw [Stated.overWidth]; omega
  have hfits : s.PKT_PLEN.toNat ≤ Config.FRAME_MAX - 28 := hplen
  have hmin := frameMax_ge
  have hmax := frameMax_le
  have hframe : (packetFrame s).length = 28 + s.PKT_PLEN.toNat := packetFrame_length s
  refine ⟨complete 0x4 none (storeFrame (packetFrame s) s),
    congrArg Host.Outcome.next (frameSerializeCommand_of_accepted hcomplete hfits fun h => hwidth h.2), rfl,
    fun m hcopy => ?_⟩
  have hout : (complete 0x4 none (storeFrame (packetFrame s) s)).OUT_LEN.toNat = 28 + s.PKT_PLEN.toNat := by
    rw [complete_OUT_LEN]
    exact storeFrame_OUT_LEN_of_lt _ (by omega)
  refine exec_frameParse_of_packetFrame hpresent hwidth hout (hout.trans_le (by omega)) fun k hk => ?_
  rw [hcopy k hk, bufRead_complete, bufRead_OBUF_storeFrame (by rw [hframe, ← hout]; exact hk)]

theorem packetFrame_complete (op : BitVec 4) (e : Option ErrorCause) (s : State) :
    packetFrame (complete op e s) = packetFrame s := by
  have hpayload : payloadOperand (complete op e s) = payloadOperand s := bufBytes_congr fun k _ => bufRead_complete ..
  rw [packetFrame, hpayload]
  rfl

/-- The registers and PBUF hold all of a packet (41_frame_codec.md R97). -/
theorem registerPacket_loadPacket {p : Packet} (h : p.payload.length < 2 ^ 64) (s : State) :
    registerPacket (loadPacket p s) = p := by
  have hpayload : payloadOperand (loadPacket p s) = p.payload := by
    rw [payloadOperand, payloadLength, loadPacket_PKT_PLEN s h]
    exact bufBytes_eq_of_bufRead fun k hk => bufRead_PBUF_loadPacket hk s
  rw [registerPacket, hpayload]
  simp [loadPacket]

/-- No packet value is over-width (41_frame_codec.md R95). -/
theorem not_overWidth_loadPacket (p : Packet) (s : State) : ¬ Stated.overWidth (loadPacket p s) := by
  have fits {n : Nat} (hn : n ≤ 64) (v : BitVec n) : ¬ 2 ^ n ≤ (v.setWidth 64).toNat := by
    rw [BitVec.toNat_setWidth_of_le hn]
    exact Nat.not_le.2 v.isLt
  rintro (hid | hreq | hrsp | hdws | hdwe)
  · exact fits (by decide) p.id hid
  · exact fits (by decide) p.request_address hreq
  · exact fits (by decide) p.response_address hrsp
  · exact fits (by decide) p.data_window_start hdws
  · exact fits (by decide) p.data_window_end hdwe

/-- FRAME_SERIALIZE right after FRAME_PARSE stores the frame of the packet parsed, under either policy
(41_frame_codec.md R97). -/
theorem frameSerializeCommand_of_loadPacket {frameMax : Nat} (hmax : frameMax ≤ 2 ^ 24) {p : Packet}
    (hfits : p.payload.length ≤ frameMax - 28) (op : BitVec 4) (s : State) :
    frameSerializeCommand frameMax (complete op none (loadPacket p s))
      = complete 0x4 none (storeFrame (serializePacket p) (complete op none (loadPacket p s))) := by
  have hplen : (complete op none (loadPacket p s)).PKT_PLEN.toNat = p.payload.length :=
    loadPacket_PKT_PLEN s (by omega)
  have hframe : packetFrame (complete op none (loadPacket p s)) = serializePacket p := by
    rw [packetFrame_complete, packetFrame_eq_serializePacket, registerPacket_loadPacket (by omega)]
  rw [frameSerializeCommand_of_accepted ⟨rfl, rfl⟩ (hplen.trans_le hfits) fun h => not_overWidth_loadPacket p s h.2,
    hframe]

/-- Settles O23: the packet parsed is the one serialized, and its frame is the frame parsed, padded. -/
theorem parseThenSerializeKeepsTheFrame : Obligations.ParseThenSerializeKeepsTheFrame := by
  intro s hfits hpolicy
  have hmax := frameMax_le
  have hparse := frameParseCommand_of_accepted hfits hpolicy.symm
  have hpayload := frameParse_frameOperand_payload_length s
  have hserialize := frameSerializeCommand_of_loadPacket hmax (hpayload.trans_le (by omega)) 0x3 s
  have hplen : (loadPacket (frameParse (frameOperand s)) s).PKT_PLEN.toNat = s.IN_LEN.toNat - 28 :=
    (loadPacket_PKT_PLEN s (by omega)).trans hpayload
  have hlength : (serializePacket (frameParse (frameOperand s))).length = max 28 s.IN_LEN.toNat := by
    rw [serializePacket_length, hpayload]
    omega
  refine ⟨_, _, congrArg Host.Outcome.next hparse, congrArg Host.Outcome.next hserialize, rfl, rfl, ?length,
    fun k hk => ?bytes⟩
  case length =>
    rw [complete_OUT_LEN, storeFrame_OUT_LEN_of_lt _ (by rw [complete_PKT_PLEN, hplen]; omega), complete_PKT_PLEN, hplen]
    omega
  case bytes =>
    rw [bufRead_complete, bufRead_OBUF_storeFrame (by omega), serializePacket_frameParse_getD, frameOperand_getD,
      Stated.frameByte]

/-! ### Who changes the packet -/

theorem samePacket_complete (op : BitVec 4) (e : Option ErrorCause) (s : State) :
    Stated.samePacket s (complete op e s) := ⟨rfl, rfl, rfl, rfl, rfl, rfl, rfl, rfl⟩

/-- No command but FRAME_PARSE and CLEAR changes the packet (41_frame_codec.md R98). -/
theorem commandResult_samePacket {i : Instr} (hparse : i ≠ .frameParse) (hclear : i ≠ .clear) (s : State) :
    Stated.samePacket s (commandResult i s) := by
  cases he : commandError i s with
  | some e => exact commandResult_of_error he ▸ samePacket_complete i.opcode (some e) s
  | none =>
    rw [commandResult_of_no_error he]
    cases i with
    | frameParse => exact absurd rfl hparse
    | clear => exact absurd rfl hclear
    | _ => simp [Stated.samePacket, commandWrites, storeFrame]

/-- The registers whose write changes the packet (10_state.md R25 to R29). -/
def packetRegisters : List Reg := [.PKT_ID, .PKT_FLAGS, .PKT_REQ, .PKT_RSP, .PKT_DWS, .PKT_DWE, .PKT_PLEN]

theorem packetRegisters_map_offset :
    packetRegisters.map Reg.offset = [0x058, 0x060, 0x068, 0x070, 0x078, 0x080, 0x088] := rfl

theorem regWrite_samePacket {r : Reg} (h : r ∉ packetRegisters) (v : Word64) (s : State) :
    Stated.samePacket s (regWrite r v s) := by
  cases r with
  | PKT_ID | PKT_FLAGS | PKT_REQ | PKT_RSP | PKT_DWS | PKT_DWE | PKT_PLEN => exact absurd h (by decide)
  | _ => exact ⟨rfl, rfl, rfl, rfl, rfl, rfl, rfl, rfl⟩

theorem hostBufWrite_samePacket (B : Buffer) (k : Nat) (b : Byte) (s : State) :
    Stated.samePacket s (hostBufWrite B k b s) := by
  cases B <;> exact ⟨rfl, rfl, rfl, rfl, rfl, rfl, rfl, rfl⟩

/-- Settles O41, by the kinds of transition: a command and a register write each name what they change. -/
theorem whoChangesThePacketRegisters : Obligations.WhoChangesThePacketRegisters := by
  intro s t hstep
  cases transition_of_step hstep with
  | idle => exact .inl ⟨rfl, rfl, rfl, rfl, rfl, rfl, rfl, rfl⟩
  | resetPulse rest hin => exact .inr (.inl ⟨rest, hin⟩)
  | command v rest hin =>
    by_cases hparse : decode v = .frameParse
    · exact .inr (.inr (.inl ⟨v, rest, .inl (eq_encode_of_decode_eq hparse), hin⟩))
    by_cases hclear : decode v = .clear
    · exact .inr (.inr (.inl ⟨v, rest, .inr (eq_encode_of_decode_eq hclear), hin⟩))
    exact .inl (commandResult_samePacket hparse hclear (s.withInputs rest))
  | registerWrite r v rest _ hin =>
    by_cases hr : r ∈ packetRegisters
    · exact .inr (.inr (.inr ⟨r.offset, v, rest, packetRegisters_map_offset ▸ List.mem_map_of_mem hr, hin⟩))
    · exact .inl (regWrite_samePacket hr v (s.withInputs rest))
  | byteWrite B k v rest => exact .inl (hostBufWrite_samePacket B k _ (s.withInputs rest))
  | read => exact .inl ⟨rfl, rfl, rfl, rfl, rfl, rfl, rfl, rfl⟩

end Sys2Proof.Proofs
end

section
/-! PROOFS. The address decoder: an address as its three ids, what ADDR_DECODE does, and the statements of
42_address_decoder.md. -/

namespace Sys2Proof.Proofs

open Sys2Proof.Machine Sys2Proof.Laws

/-! ### An address and its three ids -/

/-- The address whose service, component and resource ids are given: the inverse of `addrDecode`
(42_address_decoder.md R104). -/
def joinAddress (svc cmp res : BitVec 16) : BitVec 48 := svc ++ cmp ++ res

theorem joinAddress_toNat (svc cmp res : BitVec 16) :
    (joinAddress svc cmp res).toNat = svc.toNat * 2 ^ 32 + cmp.toNat * 2 ^ 16 + res.toNat := by
  rw [joinAddress, BitVec.toNat_append, BitVec.toNat_append, ← Nat.shiftLeft_add_eq_or_of_lt cmp.isLt,
    ← Nat.shiftLeft_add_eq_or_of_lt res.isLt, Nat.shiftLeft_eq, Nat.shiftLeft_eq]
  omega

theorem addrDecode_toNat (a : BitVec 48) :
    (addrDecode a).1.toNat = a.toNat / 2 ^ 32 % 2 ^ 16 ∧ (addrDecode a).2.1.toNat = a.toNat / 2 ^ 16 % 2 ^ 16
      ∧ (addrDecode a).2.2.toNat = a.toNat % 2 ^ 16 := by
  simp only [addrDecode, BitVec.extractLsb'_toNat, Nat.shiftRight_eq_div_pow, pow_zero, Nat.div_one, and_self]

theorem joinAddress_addrDecode (a : BitVec 48) :
    joinAddress (addrDecode a).1 (addrDecode a).2.1 (addrDecode a).2.2 = a := by
  obtain ⟨hsvc, hcmp, hres⟩ := addrDecode_toNat a
  refine BitVec.eq_of_toNat_eq ?_
  rw [joinAddress_toNat, hsvc, hcmp, hres]
  omega

theorem addrDecode_joinAddress (svc cmp res : BitVec 16) : addrDecode (joinAddress svc cmp res) = (svc, cmp, res) := by
  obtain ⟨hsvc, hcmp, hres⟩ := addrDecode_toNat (joinAddress svc cmp res)
  rw [joinAddress_toNat] at hsvc hcmp hres
  have svc_eq : (addrDecode (joinAddress svc cmp res)).1 = svc := BitVec.eq_of_toNat_eq (by omega)
  have cmp_eq : (addrDecode (joinAddress svc cmp res)).2.1 = cmp := BitVec.eq_of_toNat_eq (by omega)
  have res_eq : (addrDecode (joinAddress svc cmp res)).2.2 = res := BitVec.eq_of_toNat_eq (by omega)
  exact Prod.ext svc_eq (Prod.ext cmp_eq res_eq)

/-- Settles O27: `joinAddress` inverts `addrDecode` on both sides, and FRAME_PARSE writes no result of the decoder. -/
theorem addressDecomposition : Obligations.AddressDecomposition := by
  refine ⟨fun a => ?sum, fun svc cmp res => ⟨joinAddress svc cmp res, addrDecode_joinAddress svc cmp res, ?unique⟩,
    fun s => ⟨_, exec_eq_commandResult .frameParse s, commandResult_sameAddressResult (by decide) (by decide) s⟩⟩
  case sum => rw [← joinAddress_toNat, joinAddress_addrDecode]
  case unique =>
    intro a' h
    rw [← joinAddress_addrDecode a', h]

/-! ### The target -/

section
variable {svc cmp res : BitVec 16}

theorem targetSelect_of_resource (hres : res ≠ 0) :
    targetSelect svc cmp res = { TGT_KIND := .RESOURCE, TGT_ID := res } := if_pos hres

theorem targetSelect_of_component (hres : res = 0) (hcmp : cmp ≠ 0) :
    targetSelect svc cmp res = { TGT_KIND := .COMPONENT, TGT_ID := cmp } :=
  (if_neg (not_not.2 hres)).trans (if_pos hcmp)

theorem targetSelect_of_service (hres : res = 0) (hcmp : cmp = 0) (hsvc : svc ≠ 0) :
    targetSelect svc cmp res = { TGT_KIND := .SERVICE, TGT_ID := svc } :=
  (if_neg (not_not.2 hres)).trans ((if_neg (not_not.2 hcmp)).trans (if_pos hsvc))

theorem targetSelect_of_zero (hres : res = 0) (hcmp : cmp = 0) (hsvc : svc = 0) :
    targetSelect svc cmp res = { TGT_KIND := .NONE, TGT_ID := 0 } :=
  (if_neg (not_not.2 hres)).trans ((if_neg (not_not.2 hcmp)).trans (if_neg (not_not.2 hsvc)))

theorem targetSelect_eq_NONE_iff :
    (targetSelect svc cmp res).TGT_KIND = .NONE ↔ svc = 0 ∧ cmp = 0 ∧ res = 0 := by
  by_cases hres : res = 0
  · by_cases hcmp : cmp = 0
    · by_cases hsvc : svc = 0
      · rw [targetSelect_of_zero hres hcmp hsvc]
        exact iff_of_true rfl ⟨hsvc, hcmp, hres⟩
      · rw [targetSelect_of_service hres hcmp hsvc]
        exact iff_of_false nofun fun h => hsvc h.1
    · rw [targetSelect_of_component hres hcmp]
      exact iff_of_false nofun fun h => hcmp h.2.1
  · rw [targetSelect_of_resource hres]
    exact iff_of_false nofun fun h => hres h.2.2

end

/-- Only the zero address names nothing (42_address_decoder.md R102). -/
theorem targetSelect_addrDecode_eq_NONE_iff (a : BitVec 48) :
    (targetSelect (addrDecode a).1 (addrDecode a).2.1 (addrDecode a).2.2).TGT_KIND = .NONE ↔ a = 0 := by
  rw [targetSelect_eq_NONE_iff]
  constructor
  · rintro ⟨hsvc, hcmp, hres⟩
    rw [← joinAddress_addrDecode a, hsvc, hcmp, hres]
    rfl
  · rintro rfl
    exact ⟨rfl, rfl, rfl⟩

/-! ### What ADDR_DECODE does -/

theorem addressOperand_toNat (s : State) : (addressOperand s).toNat = s.ADDR_IN.toNat % 2 ^ 48 :=
  BitVec.toNat_setWidth ..

theorem exec_addrDecode (s : State) :
    exec .addrDecode s = .next { s with
      ADDR_SVC := (addrDecode (addressOperand s)).1
      ADDR_CMP := (addrDecode (addressOperand s)).2.1
      ADDR_RES := (addrDecode (addressOperand s)).2.2
      ADDR_TGT := targetSelect (addrDecode (addressOperand s)).1 (addrDecode (addressOperand s)).2.1
        (addrDecode (addressOperand s)).2.2
      STATUS := Stated.okStatus 0x5 s.STATUS } := by
  rw [exec_eq_commandResult, commandResult_of_no_error rfl]
  exact congrArg Host.Outcome.next (complete_none_eq_okStatus 0x5 _)

/-- Settles O24: the ids of ADDR_IN[47:0] in arithmetic, and one lemma for each target. -/
theorem addrDecodeResult : Obligations.AddrDecodeResult := by
  intro s
  obtain ⟨hsvc, hcmp, hres⟩ := addrDecode_toNat (addressOperand s)
  rw [addressOperand_toNat] at hsvc hcmp hres
  exact ⟨_, _, _, _, hsvc.trans (by omega), hcmp.trans (by omega), hres.trans (by omega), targetSelect_of_resource,
    targetSelect_of_component, targetSelect_of_service, targetSelect_of_zero, exec_addrDecode s⟩

/-- Settles O25: the operand is zero exactly when ADDR_IN[47:0] is. -/
theorem noTargetExactlyForTheZeroAddress : Obligations.NoTargetExactlyForTheZeroAddress := by
  refine fun s => ⟨_, exec_addrDecode s, rfl, (targetSelect_addrDecode_eq_NONE_iff (addressOperand s)).trans ?_⟩
  rw [← addressOperand_toNat]
  exact BitVec.toNat_inj.symm

/-! ### Bits above 47 -/

theorem addressOperand_withAddress {s : State} {v : Word64} (h : v.toNat % 2 ^ 48 = s.ADDR_IN.toNat % 2 ^ 48) :
    addressOperand { s with ADDR_IN := v } = addressOperand s := by
  refine BitVec.eq_of_toNat_eq ?_
  rw [addressOperand_toNat, addressOperand_toNat]
  exact h

/-- What FRAME_PARSE leaves where it raises no error (41_frame_codec.md R89). -/
theorem exec_frameParse_of_no_error {s t : State} (hexec : exec .frameParse s = .next t) (herr : t.STATUS.ERR = false) :
    t = complete 0x3 none (loadPacket (frameParse (frameOperand s)) s) := by
  cases eq_commandResult_of_exec hexec
  cases he : commandError .frameParse s with
  | none => exact commandResult_of_no_error he
  | some e =>
    rw [commandResult_STATUS (by decide), he] at herr
    cases herr

theorem toNat_setWidth_address_lt (a : BitVec 48) : (a.setWidth 64).toNat < 2 ^ 48 :=
  (BitVec.toNat_setWidth_of_le (by decide)).trans_lt a.isLt

/-- Settles O26: ADDR_DECODE sees its operand only, and the addresses of a packet have 48 bits. -/
theorem addrDecodeIgnoresHighBits : Obligations.AddrDecodeIgnoresHighBits := by
  refine ⟨fun s v h => ⟨_, exec_addrDecode s, ?decode⟩, fun s t hexec herr => ?parse⟩
  case decode => rw [exec_addrDecode, addressOperand_withAddress h]
  case parse =>
    rw [exec_frameParse_of_no_error hexec herr]
    simp only [loadPacket, complete_PKT_REQ, bufWriteBytes_PKT_REQ, setPacket_PKT_REQ]
    exact ⟨toNat_setWidth_address_lt _, toNat_setWidth_address_lt _, toNat_setWidth_address_lt _,
      toNat_setWidth_address_lt _⟩

end Sys2Proof.Proofs
end

section
/-! PROOFS. The control commands, the completion of every command, and the host's registers and buffer bytes: the
statements of 43_control.md. -/

namespace Sys2Proof.Proofs

open Sys2Proof.Machine Sys2Proof.Safety Sys2Proof.Laws

/-! ### How a command ends -/

theorem exec_of_error {i : Instr} {s : State} {e : ErrorCause} (h : commandError i s = some e) :
    exec i s = .next { s with STATUS := Stated.errStatus i.opcode e.code } := by
  rw [exec_eq_commandResult, commandResult_of_error h, raise_eq_errStatus]

theorem exec_of_no_error {i : Instr} {s : State} (h : commandError i s = none) :
    exec i s = .next { commandWrites i s with
      STATUS := Stated.okStatus i.opcode (commandWrites i s).STATUS } := by
  rw [exec_eq_commandResult, commandResult_of_no_error h, complete_none_eq_okStatus]

theorem errorCause_code_le_six (e : ErrorCause) : e.code.toNat ≤ 6 := by
  cases e <;> decide

/-- Settles O28: a command either raises its error, whose code is 1 to 6, or makes its writes, which reach STATUS only
in CLEAR. -/
theorem everyCommandCompletes : Obligations.EveryCommandCompletes := by
  intro i s
  cases he : commandError i s with
  | some e =>
    refine ⟨_, exec_of_error he, fun _ => ⟨e.code, errorCause_code_le_six e, fun hzero => ?_, fun _ => rfl⟩, ?clear⟩
    · exact absurd hzero (errorCause_code_ne_zero e)
    case clear =>
      rintro rfl
      cases he
  | none =>
    refine ⟨_, exec_of_no_error he, fun hclear => ⟨0, by decide, fun _ => ?_, fun hne => absurd rfl hne⟩, ?clear⟩
    · exact congrArg (Stated.okStatus i.opcode) (commandWrites_STATUS hclear s)
    case clear =>
      rintro rfl
      rfl

/-! ### The control commands -/

/-- Settles O8: NOP raises no error and has no writes. -/
theorem nopWritesStatusOnly : Obligations.NopWritesStatusOnly := fun _ => exec_of_no_error rfl

/-- Settles O9: the writes of CLEAR are those of `clearRegisters`, which keeps the memories and the draw. -/
theorem clearResetsEveryRegister : Obligations.ClearResetsEveryRegister := by
  refine fun s => ⟨_, exec_of_no_error rfl, ?registers, rfl, fun B k => ?bytes, rfl, rfl, rfl, rfl, rfl, rfl⟩
  case registers => exact ⟨rfl, rfl, rfl, rfl, rfl, rfl, rfl, rfl, rfl, rfl, rfl, rfl, rfl, rfl, rfl, rfl, rfl, rfl⟩
  case bytes => exact bufRead_congr (by cases B <;> rfl) rfl k

theorem exec_of_bad_command {i : Instr} {s : State} (h : commandError i s = some .BAD_CMD) :
    exec i s = .next { s with STATUS := Stated.errStatus i.opcode 6 } := exec_of_error h

/-- Settles O10: BAD_CMD is the error of each reserved command, in every state. -/
theorem reservedCommandsRaiseBadCmd : Obligations.ReservedCommandsRaiseBadCmd := fun _ =>
  ⟨exec_of_bad_command rfl, exec_of_bad_command rfl, exec_of_bad_command rfl, exec_of_bad_command rfl,
    exec_of_bad_command rfl, exec_of_bad_command rfl, exec_of_bad_command rfl, exec_of_bad_command rfl,
    exec_of_bad_command rfl, fun _ _ => exec_of_bad_command rfl⟩

/-! ### Issuing a command -/

theorem step_of_command {s : State} {v : Word64} {rest : List Input}
    (hin : s.inputs = .access (.write 0x000 8 v) :: rest) : step s = exec (decode v) (s.withInputs rest) :=
  (step_of_access hin).trans (hostAccess_write_CMD _ v _)

theorem step_withFetchWord (s : State) (nbits w : Nat) :
    step (s.withFetchWord nbits w) = exec (decode (BitVec.ofNat 64 (w % 2 ^ nbits))) s :=
  step_of_command (s := s.withFetchWord nbits w) rfl

/-- Settles O6. -/
theorem stepRunsTheDecodedCommand : Obligations.StepRunsTheDecodedCommand :=
  ⟨fun _ _ _ => step_of_command, step_withFetchWord⟩

/-- Settles O5: the step runs the decoded command, which is reserved above 6 and one of the seven commands below. -/
theorem commandIssueSelectsByWord : Obligations.CommandIssueSelectsByWord := by
  intro s v rest hin
  obtain ⟨⟨h0, h1, h2, h3, h4, h5, h6⟩, -⟩ := commandWordsAreZeroToSix
  have selects {w : Word64} {i : Instr} (hw : decode w = i) (hv : v = w) : step s = exec i (s.withInputs rest) := by
    rw [step_of_command hin, hv, hw]
  refine ⟨⟨_, (step_of_command hin).trans (exec_eq_commandResult _ _)⟩, fun hv => ?illegal, selects h0, selects h1,
    selects h2, selects h3, selects h4, selects h5, selects h6⟩
  case illegal =>
    rw [step_of_command hin, exec_decode_of_six_lt hv, raise_eq_errStatus]
    rfl

/-! ### Register offsets -/

theorem offset_le_and_aligned (r : Reg) : r.offset ≤ 0x0A8 ∧ r.offset % 8 = 0 := by
  cases r <;> decide

section
variable {offset : Nat} (h : ¬ (offset ≤ 0x0A8 ∧ offset % 8 = 0))
include h

theorem ne_offset_of_unmapped (r : Reg) : offset ≠ r.offset := by
  rintro rfl
  exact h (offset_le_and_aligned r)

theorem not_accessAdmitted_write_of_unmapped (frameMax : Nat) (v : Word64) :
    ¬ AccessAdmitted frameMax (.write offset 8 v) := by
  simp [AccessAdmitted, ne_offset_of_unmapped h]

theorem not_accessAdmitted_read_of_unmapped (frameMax : Nat) : ¬ AccessAdmitted frameMax (.read offset 8) := by
  simp [AccessAdmitted, ne_offset_of_unmapped h]

end

theorem hostAccess_refused_of_not_admitted {frameMax : Nat} (hmax : frameMax ≤ 2 ^ 24) {a : Access}
    (h : ¬ AccessAdmitted frameMax a) (s : State) : ∃ r, hostAccess frameMax a s = .refused r :=
  (hostAccess_refused_or_admitted hmax a s).resolve_right h

theorem step_refused_of_not_admitted {s : State} {a : Access} {rest : List Input} (hin : s.inputs = .access a :: rest)
    (h : ¬ AccessAdmitted Config.FRAME_MAX a) : ∃ r, step s = .refused r := by
  rw [step_of_access hin]
  exact hostAccess_refused_of_not_admitted frameMax_le h _

/-! ### Register writes -/

theorem writeEffect_of_regWrite {r : Reg} (hr : r ≠ .CMD) {f : Word64 → State → State}
    (h : ∀ v s, regWrite r v s = f v s) : Stated.WriteEffect r.offset f := by
  intro s v rest hin
  rw [step_of_register_write hr hin, h]
  rfl

/-- The registers that a host write leaves as they are (43_control.md R108). -/
def readOnlyRegisters : List Reg :=
  [.STATUS, .CAP, .FLG_OUT, .ADDR_SVC, .ADDR_CMP, .ADDR_RES, .ADDR_TGT, .PKT_PRESENT, .OUT_LEN, .RESERVED_0A8]

theorem readOnlyRegisters_map_offset :
    readOnlyRegisters.map Reg.offset =
      [0x008, 0x018, 0x028, 0x038, 0x040, 0x048, 0x050, 0x090, 0x0A0, 0x0A8] := rfl

theorem regWrite_of_mem_readOnlyRegisters {r : Reg} (h : r ∈ readOnlyRegisters) (v : Word64) (s : State) :
    regWrite r v s = s := by
  simp only [readOnlyRegisters, List.mem_cons, List.not_mem_nil, or_false] at h
  rcases h with rfl | rfl | rfl | rfl | rfl | rfl | rfl | rfl | rfl | rfl <;> rfl

theorem ne_CMD_of_mem_readOnlyRegisters {r : Reg} (h : r ∈ readOnlyRegisters) : r ≠ .CMD := by
  rintro rfl
  exact absurd h (by decide)

theorem regWrite_CTRL (v : Word64) (s : State) :
    regWrite .CTRL v s = { s with CTRL := { STRICT := decide (v.toNat % 2 = 1) } } := by
  rw [regWrite, BitVec.getLsbD, Nat.testBit_zero]

theorem regWrite_PKT_FLAGS (v : Word64) (s : State) :
    regWrite .PKT_FLAGS v s = { s with
      PKT_FLAGS := BitVec.ofNat 8 v.toNat
      PKT_PRESENT := { ID := s.PKT_PRESENT.ID, FLAGS := true } } := by
  rw [regWrite, BitVec.ofNat_toNat]

/-- Settles O35: each register's write is `regWrite`, which only for CTRL and PKT_FLAGS narrows the value. -/
theorem registerWriteEffects : Obligations.RegisterWriteEffects := by
  have stored (r : Reg) (hr : r ≠ .CMD) : Stated.WriteEffect r.offset (regWrite r) :=
    writeEffect_of_regWrite hr fun _ _ => rfl
  refine ⟨writeEffect_of_regWrite (r := .CTRL) (by decide) regWrite_CTRL, stored .FLG_IN (by decide),
    stored .ADDR_IN (by decide), stored .PKT_REQ (by decide), stored .PKT_RSP (by decide), stored .PKT_DWS (by decide),
    stored .PKT_DWE (by decide), stored .PKT_PLEN (by decide), stored .IN_LEN (by decide), stored .PKT_ID (by decide),
    writeEffect_of_regWrite (r := .PKT_FLAGS) (by decide) regWrite_PKT_FLAGS, fun offset hoffset => ?readOnly,
    fun _ _ _ => step_of_command, fun s offset v rest hoffset hin => ?unmapped⟩
  case readOnly =>
    rw [← readOnlyRegisters_map_offset] at hoffset
    obtain ⟨r, hr, rfl⟩ := List.mem_map.1 hoffset
    exact writeEffect_of_regWrite (ne_CMD_of_mem_readOnlyRegisters hr) (regWrite_of_mem_readOnlyRegisters hr)
  case unmapped =>
    exact step_refused_of_not_admitted hin (not_accessAdmitted_write_of_unmapped hoffset _ v)

/-! ### Register values in arithmetic -/

theorem toNat_append_eq_add {m n : Nat} (x : BitVec m) (y : BitVec n) :
    (x ++ y).toNat = x.toNat * 2 ^ n + y.toNat := by
  rw [BitVec.toNat_append, ← Nat.shiftLeft_add_eq_or_of_lt y.isLt, Nat.shiftLeft_eq]

@[simp] theorem bit1_toNat (b : Bool) : (bit1 b).toNat = b.toNat := BitVec.toNat_ofBool b

@[simp] theorem targetKind_code_toNat (kind : TargetKind) : kind.code.toNat = Stated.kindCode kind := by
  cases kind <;> rfl

theorem statusWord_toNat (st : Status) :
    (statusWord st).toNat = st.DONE.toNat + 2 * st.ERR.toNat + 4 * st.ERR_STICKY.toNat + 16 * st.ERR_CODE.toNat
      + 256 * st.LAST_OP.toNat := by
  simp only [statusWord, toNat_append_eq_add, bit1_toNat, BitVec.toNat_zero, BitVec.ofNat_eq_ofNat]
  omega

theorem ctrlWord_toNat (c : Ctrl) : (ctrlWord c).toNat = c.STRICT.toNat := by
  simp only [ctrlWord, toNat_append_eq_add, bit1_toNat, BitVec.toNat_zero, BitVec.ofNat_eq_ofNat]
  omega

theorem presentWord_toNat (p : Present) : (presentWord p).toNat = p.ID.toNat + 2 * p.FLAGS.toNat := by
  simp only [presentWord, toNat_append_eq_add, bit1_toNat, BitVec.toNat_zero, BitVec.ofNat_eq_ofNat]
  omega

theorem targetWord_toNat (t : Target) :
    (targetWord t).toNat = t.TGT_ID.toNat + 2 ^ 16 * Stated.kindCode t.TGT_KIND := by
  simp only [targetWord, toNat_append_eq_add, targetKind_code_toNat, BitVec.toNat_zero, BitVec.ofNat_eq_ofNat]
  omega

/-- FRAME_MAX fits its field of 32 bits, whatever the capacity (10_state.md R36). -/
theorem capWord_toNat {frameMax : Nat} (hmax : frameMax ≤ 2 ^ 24) :
    (capWord frameMax).toNat = 2 ^ 40 + 256 * frameMax + 28 := by
  simp only [capWord, toNat_append_eq_add, Config.SPEC_VERSION, Config.HDR_BYTES, BitVec.toNat_ofNat,
    BitVec.ofNat_eq_ofNat]
  omega

/-! ### Register reads -/

theorem readValue_of_regRead (r : Reg) {g : State → Nat} (h : ∀ s, (regRead r s).toNat = g s) :
    Stated.ReadValue r.offset g := fun s _ hin => ⟨regRead r s, h s, step_of_register_read hin⟩

/-- Settles O36: one lemma for each layout; the other registers read as they are, a narrow one zero-extended. -/
theorem registerReadValues : Obligations.RegisterReadValues := by
  refine ⟨readValue_of_regRead .CMD fun _ => rfl,
    readValue_of_regRead .STATUS fun s => statusWord_toNat s.STATUS,
    readValue_of_regRead .CTRL fun s => ctrlWord_toNat s.CTRL,
    readValue_of_regRead .CAP fun _ => capWord_toNat frameMax_le,
    readValue_of_regRead .FLG_IN fun _ => rfl,
    readValue_of_regRead .FLG_OUT fun _ => rfl,
    readValue_of_regRead .ADDR_IN fun _ => rfl,
    readValue_of_regRead .ADDR_SVC fun _ => BitVec.toNat_setWidth_of_le (by decide),
    readValue_of_regRead .ADDR_CMP fun _ => BitVec.toNat_setWidth_of_le (by decide),
    readValue_of_regRead .ADDR_RES fun _ => BitVec.toNat_setWidth_of_le (by decide),
    readValue_of_regRead .ADDR_TGT fun s => targetWord_toNat s.ADDR_TGT,
    readValue_of_regRead .PKT_ID fun _ => rfl,
    readValue_of_regRead .PKT_FLAGS fun _ => BitVec.toNat_setWidth_of_le (by decide),
    readValue_of_regRead .PKT_REQ fun _ => rfl,
    readValue_of_regRead .PKT_RSP fun _ => rfl,
    readValue_of_regRead .PKT_DWS fun _ => rfl,
    readValue_of_regRead .PKT_DWE fun _ => rfl,
    readValue_of_regRead .PKT_PLEN fun _ => rfl,
    readValue_of_regRead .PKT_PRESENT fun s => presentWord_toNat s.PKT_PRESENT,
    readValue_of_regRead .IN_LEN fun _ => rfl,
    readValue_of_regRead .OUT_LEN fun _ => rfl,
    readValue_of_regRead .RESERVED_0A8 fun _ => rfl,
    fun s offset rest hoffset hin => ?unmapped⟩
  case unmapped =>
    exact step_refused_of_not_admitted hin (not_accessAdmitted_read_of_unmapped hoffset _)

/-! ### Buffer bytes -/

theorem bufSize_le_window {frameMax : Nat} (hmax : frameMax ≤ 2 ^ 24) (B : Buffer) : bufSize frameMax B ≤ 2 ^ 24 := by
  cases B with
  | IBUF | OBUF => exact hmax
  | PBUF => exact (Nat.sub_le frameMax 28).trans hmax

theorem windowBase_injective {B C : Buffer} (h : windowBase B = windowBase C) : B = C := by
  cases B <;> cases C <;> simp [windowBase] at h ⊢

theorem windowBase_mod_window (B : Buffer) : windowBase B % 2 ^ 24 = 0 := by cases B <;> rfl

/-- The windows are 2^24 offsets apart, so an offset is a byte of one window only (20_memory.md R42, R44). -/
theorem windowBase_add_inj {B C : Buffer} {k j : Nat} (hk : k < 2 ^ 24) (hj : j < 2 ^ 24)
    (h : windowBase B + k = windowBase C + j) : B = C ∧ k = j := by
  have hB := windowBase_mod_window B
  have hC := windowBase_mod_window C
  exact ⟨windowBase_injective (by omega), by omega⟩

theorem hostAccess_write_byte_refused {frameMax : Nat} (hmax : frameMax ≤ 2 ^ 24) {B : Buffer} {k : Nat}
    (hk : bufSize frameMax B ≤ k) (hk24 : k < 2 ^ 24) (v : Word64) (s : State) :
    ∃ r, hostAccess frameMax (.write (windowBase B + k) 1 v) s = .refused r := by
  refine hostAccess_refused_of_not_admitted hmax ?_ s
  rintro (⟨hsize, -⟩ | ⟨-, -, C, j, hoffset, hj⟩)
  · cases hsize
  · obtain ⟨rfl, rfl⟩ := windowBase_add_inj hk24 (hj.trans_le (bufSize_le_window hmax C)) hoffset
    exact absurd hj (Nat.not_lt.2 hk)

theorem hostAccess_write_byte_eq_hostBufWrite {frameMax : Nat} (hmax : frameMax ≤ 2 ^ 24) {B : Buffer} {k : Nat}
    (hk : k < bufSize frameMax B) (b : Byte) (s : State) :
    hostAccess frameMax (.write (windowBase B + k) 1 (b.setWidth 64)) s = .next (hostBufWrite B k b s) := by
  rw [hostAccess_write_byte hmax hk (toNat_setWidth_byte_lt b), setWidth_setWidth_byte]

theorem bufRead_bufWrite_of_ne {j k : Nat} (h : j ≠ k) (B : Buffer) (b : Byte) (s : State) :
    bufRead B j (bufWrite B k b s) = bufRead B j s := by
  rw [bufRead_bufWrite, if_neg fun hjk => h hjk.2]

/-- Settles O37: a byte write is `hostBufWrite` below the buffer's size and refused from there on. -/
theorem bufferByteWrites : Obligations.BufferByteWrites := by
  intro frameMax s k b _ hmax
  have writes {B : Buffer} (hk : k < bufSize frameMax B) := hostAccess_write_byte_eq_hostBufWrite hmax hk b s
  have refused {B : Buffer} (hk : bufSize frameMax B ≤ k) (hk24 : k < 2 ^ 24) :=
    hostAccess_write_byte_refused hmax hk hk24 (b.setWidth 64) s
  exact ⟨fun hk => ⟨_, writes (B := .IBUF) hk, rfl, bufRead_bufWrite_same .IBUF k b s,
      fun _ hj => bufRead_bufWrite_of_ne hj .IBUF b s⟩,
    fun hk => writes (B := .OBUF) hk,
    fun hk => ⟨_, writes (B := .PBUF) hk, rfl, bufRead_bufWrite_same .PBUF k b s,
      fun _ hj => bufRead_bufWrite_of_ne hj .PBUF b s⟩,
    fun hk hk24 => ⟨refused (B := .IBUF) hk hk24, refused (B := .OBUF) hk hk24⟩,
    fun hk hk24 => refused (B := .PBUF) hk hk24⟩

/-- Settles O38: the one rule of a byte read, for each buffer. -/
theorem bufferByteReads : Obligations.BufferByteReads := fun _ s _ _ hmax =>
  ⟨fun hk => hostAccess_read_byte (B := .IBUF) hmax hk s, fun hk => hostAccess_read_byte (B := .OBUF) hmax hk s,
    fun hk => hostAccess_read_byte (B := .PBUF) hmax hk s⟩

end Sys2Proof.Proofs
end

section
/-! PROOFS. The causes of errors and what an error changes: the statements of 60_exceptions.md. -/

namespace Sys2Proof.Proofs

open Sys2Proof.Machine Sys2Proof.Laws

/-- The spec's table of causes (60_exceptions.md R115, R117) and the model's checks give the same code. -/
theorem errorCode_eq_code_commandError (i : Instr) (s : State) :
    Stated.errorCode i s = ((commandError i s).map ErrorCause.code).getD 0 := by
  cases i with
  | flagsUnpack =>
    simp only [commandError]
    split_ifs with hrange
    · exact if_pos hrange
    · exact if_neg hrange
  | frameParse =>
    simp only [commandError]
    split_ifs with hlong hshort
    · exact if_pos hlong
    · exact (if_neg hlong).trans (if_pos hshort)
    · exact (if_neg hlong).trans (if_neg hshort)
  | frameSerialize =>
    simp only [commandError, packetFieldMissing_iff, packetFieldTooWide_iff]
    split_ifs with hcomplete hlong hwide
    · exact (if_neg (not_not.2 hcomplete)).trans (if_pos hlong)
    · exact (if_neg (not_not.2 hcomplete)).trans ((if_neg hlong).trans (if_pos hwide))
    · exact (if_neg (not_not.2 hcomplete)).trans ((if_neg hlong).trans (if_neg hwide))
    · exact if_pos hcomplete
  | _ => rfl

theorem errorCode_of_error {i : Instr} {s : State} {e : ErrorCause} (h : commandError i s = some e) :
    Stated.errorCode i s = e.code := by
  rw [errorCode_eq_code_commandError, h, Option.map_some, Option.getD_some]

theorem errorCode_of_no_error {i : Instr} {s : State} (h : commandError i s = none) : Stated.errorCode i s = 0 := by
  rw [errorCode_eq_code_commandError, h, Option.map_none, Option.getD_none]

/-- Settles O29: a command either raises its error, whose code is not 0, or completes with code 0. -/
theorem errorCodesHaveTheirCauses : Obligations.ErrorCodesHaveTheirCauses := by
  intro i s
  cases he : commandError i s with
  | some e =>
    rw [errorCode_of_error he]
    exact ⟨_, exec_of_error he, rfl, iff_of_true rfl (errorCause_code_ne_zero e), fun _ => rfl⟩
  | none =>
    rw [errorCode_of_no_error he]
    exact ⟨_, exec_of_no_error he, rfl, iff_of_false Bool.false_ne_true (· rfl), fun hne => absurd rfl hne⟩

/-- Settles O30: ERR marks a code other than 0, which O29 gives with its frame; and every command answers in every
state. -/
theorem errorsChangeStatusOnly : Obligations.ErrorsChangeStatusOnly := by
  intro i s t hexec herr
  obtain ⟨u, hu, hcode, herr_iff, hframe⟩ := errorCodesHaveTheirCauses i s
  obtain rfl : t = u := Host.Outcome.next.inj (hexec.symm.trans hu)
  have hne : Stated.errorCode i s ≠ 0 := herr_iff.1 herr
  rw [hcode]
  exact ⟨hframe hne, hne, fun j => ⟨_, exec_eq_commandResult j t⟩⟩

end Sys2Proof.Proofs
end

section
/-! PROOFS. The state after reset, the reset pulse and CLEAR beside it: the statements of 70_reset_and_hazards.md. -/

namespace Sys2Proof.Proofs

open Sys2Proof.Machine Sys2Proof.Safety Sys2Proof.Laws

/-! ### The state after reset -/

theorem registersAtReset_reset : Stated.registersAtReset State.reset :=
  ⟨rfl, rfl, rfl, rfl, rfl, rfl, rfl, rfl, rfl, rfl, rfl, rfl, rfl, rfl, rfl, rfl, rfl, rfl⟩

theorem statusWord_reset : statusWord State.reset.STATUS = 0 := BitVec.eq_of_toNat_eq (statusWord_toNat _)

theorem mem_reset (B : Buffer) : State.reset.mem B = [] := by cases B <;> rfl

/-- Settles O43: the value of CAP is the one FRAME_MAX gives, whatever the capacity. -/
theorem resetValues : Obligations.ResetValues :=
  ⟨registersAtReset_reset, statusWord_reset, rfl, mem_reset, capWord_toNat frameMax_le⟩

/-! ### The reset pulse -/

theorem registersAtReset_resetBlock (s : State) : Stated.registersAtReset (resetBlock s) := registersAtReset_reset

theorem mem_resetBlock (B : Buffer) (s : State) : (resetBlock s).mem B = [] := by cases B <;> rfl

/-- A byte that nobody has written since reset reads as its unspecified contents (10_state.md R30). -/
theorem bufRead_of_mem_eq_nil {B : Buffer} {s : State} (h : s.mem B = []) (k : Nat) :
    bufRead B k s = Config.resetByte s.epoch (windowBase B + k) := by
  rw [bufRead, h, lookup_nil, Option.getD_none, unwrittenByte]

theorem bufRead_resetBlock (B : Buffer) (k : Nat) (s : State) :
    bufRead B k (resetBlock s) = Config.resetByte (resetBlock s).epoch (windowBase B + k) :=
  bufRead_of_mem_eq_nil (mem_resetBlock B s) k

/-- Settles O44: the step is `resetBlock` of the state whose pulse is taken, and that lists no buffer byte. -/
theorem resetPulseSetsEveryRegister : Obligations.ResetPulseSetsEveryRegister := fun _ _ hin =>
  ⟨_, step_of_reset hin, registersAtReset_resetBlock _, statusWord_reset, rfl, rfl,
    fun k => bufRead_resetBlock .IBUF k _, fun k => bufRead_resetBlock .OBUF k _,
    fun k => bufRead_resetBlock .PBUF k _⟩

/-! ### CLEAR beside the reset pulse -/

theorem exec_clear (s : State) : exec .clear s = .next ((clearRegisters s).setStatus statusAfterClear) := rfl

/-- A reset pulse and the writes of CLEAR differ in STATUS, in the buffers and in the draw of their contents only. -/
theorem clearRegisters_eq_resetBlock (s : State) :
    clearRegisters s =
      { resetBlock s with STATUS := s.STATUS, IBUF := s.IBUF, OBUF := s.OBUF, PBUF := s.PBUF, epoch := s.epoch } :=
  rfl

/-- Settles O45: CLEAR writes STATUS over `clearRegisters`, and neither of the two changes a buffer byte. -/
theorem clearIsResetExceptStatusAndBuffers : Obligations.ClearIsResetExceptStatusAndBuffers := by
  refine fun s => ⟨_, exec_clear s, ?registers, fun B k => ?bytes⟩
  case registers => rw [clearRegisters_eq_resetBlock, State.setStatus, statusAfterClear]
  case bytes => rw [bufRead_setStatus, bufRead_clearRegisters]

/-! ### The invariant after reset -/

/-- The invariant does not see which draw the unspecified buffer contents are. -/
theorem inv_withEpoch {s : State} (h : Inv s) (epoch : Nat) : Inv { s with epoch := epoch } :=
  ⟨h.ibuf, h.obuf, h.pbuf, h.status, h.target, h.flagsResult, h.frameResult⟩

/-- Settles O46: the state after reset is the one a reset pulse gives, but for the draw. -/
theorem resetMeetsTheInvariant : Obligations.ResetMeetsTheInvariant :=
  inv_withEpoch (inv_resetBlock State.reset) State.reset.epoch

end Sys2Proof.Proofs
end
